-- ==== Sys2Proof/Word.lean ====
section
/-! DEFINITION. The two bit-vector types of WCX: the stimulus word (30_encoding.md R60) and the command byte (30_encoding.md R63). -/

namespace Sys2Proof

/-- The stimulus word of one clock cycle: 12 bits, bit 0 least significant (30_encoding.md R60). -/
abbrev StimWord := BitVec 12

/-- A command byte, the port `cb` (20_memory.md R41, 30_encoding.md R63). -/
abbrev Byte := BitVec 8

end Sys2Proof
end

