-- ==== Sys2Proof/Config.lean ====
section
/-! DEFINITION. The implementation parameters of WCX (00_scope.md R3), the reference configuration, and the model's free values. The check of R4 is `Config.valid` in Sys2Proof/Machine/Ops.lean. -/

namespace Sys2Proof

/-- The parameters of 00_scope.md R3. RANGE, MAXV and PSC_LEN are computed from these (`Config.range`, `Config.maxv`, `Config.pscLen`). -/
structure Config where
  /-- CNT_WIDTH: bits of the narrow counter. -/
  cntWidth : Nat
  /-- ROC_WIDTH: bits of the overflow accumulator. -/
  rocWidth : Nat
  /-- WF_WIDTH: bits of the snapshot. -/
  wfWidth : Nat
  /-- TICK_WIDTH: bits of the tick counter. -/
  tickWidth : Nat
  /-- PRES_WIDTH: bits of the divider residue. -/
  presWidth : Nat
  /-- WINDOW_TICKS: ticks per window. -/
  windowTicks : Nat
  /-- PSC_EXP: the divide exponent of each prescaler setting (10_state.md R23). -/
  pscExp : List Nat
  /-- FILT_LEN: entries of the filter table. -/
  filtLen : Nat
  /-- CAL_LEN: entries of the calibration-output table. -/
  calLen : Nat
  /-- TICK_HZ: the rate of the external tick; used by no rule (00_scope.md R5). -/
  tickHz : Nat
  deriving DecidableEq, Repr

namespace Config

/-- RANGE = 2^CNT_WIDTH (00_scope.md R3, R4). -/
def range (c : Config) : Nat := 2 ^ c.cntWidth

/-- MAXV = RANGE - 1 (00_scope.md R3, R4). -/
def maxv (c : Config) : Nat := c.range - 1

/-- PSC_LEN, the number of entries of PSC_EXP (00_scope.md R3). -/
def pscLen (c : Config) : Nat := c.pscExp.length

/-- The bits of a selector register: ceil(log2 LEN), at least 1 (10_state.md R10). -/
def indexWidth (len : Nat) : Nat := max 1 (Nat.clog 2 len)

/-- The reference configuration: the column "reference value" of 00_scope.md R3. -/
def reference : Config where
  cntWidth := 16
  rocWidth := 32
  wfWidth := 32
  tickWidth := 10
  presWidth := 3
  windowTicks := 1000
  pscExp := [0, 1, 2, 3]
  filtLen := 4
  calLen := 4
  tickHz := 1000

/-- FREE VALUE. The stimulus word the environment presents in a cycle for which `State.input` lists none, picked by the cycle counter: the spec gives the environment no law (93_implementation_defined.md I12, 70_reset_and_hazards.md R186). DESIGN CHOICE, safe: log entry 4. -/
opaque freeStimulus : Nat → StimWord

/-- FREE VALUE. What TableRead gives outside the table, which 20_memory.md R43 does not define. No state that meets 10_state.md R29 reads it. DESIGN CHOICE, safe: log entry 6. -/
opaque freeTableEntry : List Nat → Nat → Nat

end Config

end Sys2Proof
end

