-- ==== Sys2Proof/Syntax.lean ====
section
/-! DEFINITION. The operations of WCX, one constructor per row of spec/opcode_table.json (30_encoding.md section 4), and the trace notation of 30_encoding.md R67. -/

namespace Sys2Proof

/-- The name of a row of spec/opcode_table.json. -/
inductive OpName where
  | reset | idle | evt | tick
  | cycleCal | toggleHold | cycleFilt | cyclePsc | echoLf | echoCr | cmdNop
  | count | ovf | setcnt | finalize
  deriving DecidableEq, Repr

/-- The operations of WCX. `lower` is the case bit of a command letter (30_encoding.md R63: bit 5 of the byte, true for the lower-case letter), kept so that a command byte is read without loss; no meaning depends on it. -/
inductive Instr where
  /-- RESET (70_reset_and_hazards.md R170). -/
  | reset
  /-- IDLE (43_snapshot.md R143). -/
  | idle
  /-- EVT (40_counting.md R80). -/
  | evt
  /-- TICK (41_window.md R100). -/
  | tick
  /-- CYCLE_CAL (42_control.md R124). -/
  | cycleCal (lower : Bool)
  /-- TOGGLE_HOLD (42_control.md R121). -/
  | toggleHold (lower : Bool)
  /-- CYCLE_FILT (42_control.md R122). -/
  | cycleFilt (lower : Bool)
  /-- CYCLE_PSC (42_control.md R123). -/
  | cyclePsc (lower : Bool)
  /-- ECHO on a line feed (42_control.md R125). -/
  | echoLf
  /-- ECHO on a carriage return (42_control.md R125). -/
  | echoCr
  /-- CMD_NOP with the ignored byte (42_control.md R126). -/
  | cmdNop (b : Byte)
  /-- Micro-operation COUNT (40_counting.md R81). -/
  | count
  /-- Micro-operation OVF (40_counting.md R82). -/
  | ovf
  /-- Micro-operation SETCNT(v) (40_counting.md R85). -/
  | setcnt (v : Nat)
  /-- Micro-operation FINALIZE (41_window.md R101). -/
  | finalize
  deriving DecidableEq, Repr

namespace Instr

/-- The table row an operation stands for. -/
def opName : Instr → OpName
  | .reset => .reset
  | .idle => .idle
  | .evt => .evt
  | .tick => .tick
  | .cycleCal _ => .cycleCal
  | .toggleHold _ => .toggleHold
  | .cycleFilt _ => .cycleFilt
  | .cyclePsc _ => .cyclePsc
  | .echoLf => .echoLf
  | .echoCr => .echoCr
  | .cmdNop _ => .cmdNop
  | .count => .count
  | .ovf => .ovf
  | .setcnt _ => .setcnt
  | .finalize => .finalize

/-- The operations of format `command`: the dispatch targets of CMD (42_control.md R120). -/
def isCommand : Instr → Bool
  | .cycleCal _ | .toggleHold _ | .cycleFilt _ | .cyclePsc _ | .echoLf | .echoCr | .cmdNop _ => true
  | .reset | .idle | .evt | .tick | .count | .ovf | .setcnt _ | .finalize => false

/-- The micro-operations: no stimulus word stands for one (30_encoding.md section 4). -/
def isMicro : Instr → Bool
  | .count | .ovf | .setcnt _ | .finalize => true
  | .reset | .idle | .evt | .tick | .cycleCal _ | .toggleHold _ | .cycleFilt _ | .cyclePsc _ | .echoLf
  | .echoCr | .cmdNop _ => false

end Instr

/-- One entry of a trace (30_encoding.md R67): a cycle, or a pseudo-operation that stands for several. -/
inductive TraceItem where
  /-- `RST`. -/
  | rst
  /-- `EVT`, `TICK`, `CMD b` joined by `+`; `IDLE` when none is given. -/
  | cycle (evt tick : Bool) (cmd : Option Byte)
  /-- `EVT*n`. -/
  | evtTimes (n : Nat)
  /-- `TICK*n`. -/
  | tickTimes (n : Nat)
  /-- `WINDOW` = `TICK*WINDOW_TICKS`. -/
  | window
  /-- `RD`: IDLE, then the observation of 43_snapshot.md R140. -/
  | rd
  /-- `HOLD` = `CMD 'H'`. -/
  | hold
  /-- `FILT` = `CMD 'F'`. -/
  | filt
  /-- `PSC` = `CMD 'P'`. -/
  | psc
  /-- `CAL` = `CMD 'O'`. -/
  | cal
  /-- `NL` = `CMD 0x0D`. -/
  | nl
  deriving DecidableEq, Repr

end Sys2Proof
end

