-- ==== Sys2Proof/WellFormed.lean ====
section
/-! DEFINITION. Which terms of `Instr`, and which lists of them as one cycle, the spec admits. -/

namespace Sys2Proof

/-- The ten bytes with an action: the column "bytes" of the command map (30_encoding.md R64). -/
def actionBytes : List Byte :=
  [0x4F#8, 0x6F#8, 0x48#8, 0x68#8, 0x46#8, 0x66#8, 0x50#8, 0x70#8, 0x0A#8, 0x0D#8]

/-- A byte is CMD_NOP's only when no other row of the map takes it (30_encoding.md R64); SETCNT has "the two operand values MAXV and 0 and no other" (40_counting.md R85). Every other operation is well-formed as it stands. -/
def wellFormed (c : Config) : Instr → Bool
  | .cmdNop b => decide (b ∉ actionBytes)
  | .setcnt v => v == c.maxv || v == 0
  | .reset | .idle | .evt | .tick | .cycleCal _ | .toggleHold _ | .cycleFilt _ | .cyclePsc _ | .echoLf
  | .echoCr | .count | .ovf | .finalize => true

/-- The operations one stimulus word can stand for, in their order (30_encoding.md R61): RESET alone, IDLE alone, or at least one of EVT, TICK and one command, in that order. -/
def cycleShape : List Instr → Bool
  | [i] => !i.isMicro
  | [.evt, i] => i == .tick || i.isCommand
  | [.tick, i] => i.isCommand
  | [.evt, .tick, i] => i.isCommand
  | _ => false

/-- A well-formed cycle: a legal shape of well-formed operations. -/
def wellFormedCycle (c : Config) (is : List Instr) : Bool :=
  cycleShape is && is.all (wellFormed c)

end Sys2Proof
end

