-- ==== Sys2Proof/Decode.lean ====
section
/-! DEFINITION. From stimulus words to operations and back: the fields of a word (30_encoding.md R60), the command map (R64, 42_control.md R120), the cycle a word stands for (R61), the encoder, the opcode table's rows, and the words of a trace (R67). -/

namespace Sys2Proof

namespace Stim

/-- Field `rst`, bit 11 (30_encoding.md R60). -/
def rst (w : StimWord) : Bool := w.getLsbD 11

/-- Field `evt`, bit 10. -/
def evt (w : StimWord) : Bool := w.getLsbD 10

/-- Field `tick`, bit 9. -/
def tick (w : StimWord) : Bool := w.getLsbD 9

/-- Field `cv`, bit 8. -/
def cv (w : StimWord) : Bool := w.getLsbD 8

/-- Field `cb`, bits 7:0. -/
def cb (w : StimWord) : Byte := w.extractLsb' 0 8

end Stim

/-- The operation a command byte selects (42_control.md R120, 30_encoding.md R64). The case bit of a letter is bit 5 (30_encoding.md R63). -/
def decodeCommand (b : Byte) : Instr :=
  let k := b &&& 0xDF#8
  if k = 0x4F#8 then .cycleCal (b.getLsbD 5)
  else if k = 0x48#8 then .toggleHold (b.getLsbD 5)
  else if k = 0x46#8 then .cycleFilt (b.getLsbD 5)
  else if k = 0x50#8 then .cyclePsc (b.getLsbD 5)
  else if b = 0x0A#8 then .echoLf
  else if b = 0x0D#8 then .echoCr
  else .cmdNop b

/-- The operations of the cycle a stimulus word stands for, in the order they take effect (30_encoding.md R61, R62). Total: every word is legal (R65). -/
def decodeCycle (w : StimWord) : List Instr :=
  if Stim.rst w then [.reset]
  else if Stim.evt w || Stim.tick w || Stim.cv w then
    (if Stim.evt w then [.evt] else []) ++ (if Stim.tick w then [.tick] else []) ++
      (if Stim.cv w then [decodeCommand (Stim.cb w)] else [])
  else [.idle]

/-- Why a number is no stimulus word. -/
inductive DecodeError where
  /-- A stimulus word is 12 bits (30_encoding.md R60); the number has a bit above them. -/
  | widerThanStimulusWord
  deriving DecidableEq, Repr

/-- The decoder on a number of any size: 12 bits are a stimulus word, anything wider is rejected by name. -/
def decodeBits (w : Nat) : Except DecodeError (List Instr) :=
  if w < 2 ^ 12 then .ok (decodeCycle (BitVec.ofNat 12 w)) else .error .widerThanStimulusWord

/-- The host's question: the operation the decoder reads from a row's bits. The rows of format `strobe` are not exclusive (30_encoding.md R61), so a word can stand for several operations; the answer is the first to take effect. -/
def decodeTableWord (nbits w : Nat) : Option Instr :=
  match decodeBits (w % 2 ^ nbits) with
  | .ok (i :: _) => some i
  | .ok [] => none
  | .error _ => none

/-- A command letter's byte: the upper-case code, and bit 5 for the lower case (30_encoding.md R63). -/
def letterByte (upper : Byte) (lower : Bool) : Byte :=
  if lower then upper ||| 0x20#8 else upper

/-- The byte of a command operation (30_encoding.md R64). -/
def encodeCommand : Instr → Option Byte
  | .cycleCal lower => some (letterByte 0x4F#8 lower)
  | .toggleHold lower => some (letterByte 0x48#8 lower)
  | .cycleFilt lower => some (letterByte 0x46#8 lower)
  | .cyclePsc lower => some (letterByte 0x50#8 lower)
  | .echoLf => some 0x0A#8
  | .echoCr => some 0x0D#8
  | .cmdNop b => some b
  | .reset | .idle | .evt | .tick | .count | .ovf | .setcnt _ | .finalize => none

/-- The stimulus word with `cv` = 1 and a command byte (30_encoding.md R60). -/
def commandWord (b : Byte) : StimWord := 0x100#12 ||| b.setWidth 12

/-- The canonical stimulus word of one operation alone; a micro-operation has none (30_encoding.md section 4). -/
def encode : Instr → Option StimWord
  | .reset => some 0x800#12
  | .idle => some 0x000#12
  | .evt => some 0x400#12
  | .tick => some 0x200#12
  | .cycleCal lower => (encodeCommand (.cycleCal lower)).map commandWord
  | .toggleHold lower => (encodeCommand (.toggleHold lower)).map commandWord
  | .cycleFilt lower => (encodeCommand (.cycleFilt lower)).map commandWord
  | .cyclePsc lower => (encodeCommand (.cyclePsc lower)).map commandWord
  | .echoLf => (encodeCommand .echoLf).map commandWord
  | .echoCr => (encodeCommand .echoCr).map commandWord
  | .cmdNop b => (encodeCommand (.cmdNop b)).map commandWord
  | .count | .ovf | .setcnt _ | .finalize => none

/-- The bits a cycle's operations set in its word, together; none when one of them has no word. -/
def encodeAll : List Instr → Option StimWord
  | [] => some 0x000#12
  | i :: is =>
    match encode i, encodeAll is with
    | some a, some b => some (a ||| b)
    | _, _ => none

/-- The canonical stimulus word of a cycle (30_encoding.md R61); none for a list no word stands for. -/
def encodeCycle (is : List Instr) : Option StimWord :=
  if cycleShape is then encodeAll is else none

/-- A row of spec/opcode_table.json that has a match and a mask of its own. -/
structure OpcodeRow where
  /-- The row's mnemonic. -/
  op : OpName
  /-- Its `match`. -/
  pattern : StimWord
  /-- Its `mask`. -/
  mask : StimWord
  deriving DecidableEq, Repr

/-- The rows of format `strobe` (spec/opcode_table.json, 30_encoding.md section 4). -/
def strobeRows : List OpcodeRow :=
  [⟨.reset, 0x800#12, 0x800#12⟩, ⟨.idle, 0x000#12, 0xF00#12⟩, ⟨.evt, 0x400#12, 0xC00#12⟩,
   ⟨.tick, 0x200#12, 0xA00#12⟩]

/-- The rows of format `command` but the default row CMD_NOP, which is taken when no other command row matches. -/
def commandRows : List OpcodeRow :=
  [⟨.cycleCal, 0x14F#12, 0x9DF#12⟩, ⟨.toggleHold, 0x148#12, 0x9DF#12⟩, ⟨.cycleFilt, 0x146#12, 0x9DF#12⟩,
   ⟨.cyclePsc, 0x150#12, 0x9DF#12⟩, ⟨.echoLf, 0x10A#12, 0x9FF#12⟩, ⟨.echoCr, 0x10D#12, 0x9FF#12⟩]

/-- The stimulus word of a cycle without reset from its ports (30_encoding.md R60); `cb` is 0 when no command is given (R66). -/
def cycleWord (evt tick : Bool) (cmd : Option Byte) : StimWord :=
  (if evt then 0x400#12 else 0x000#12) ||| (if tick then 0x200#12 else 0x000#12) |||
    (match cmd with
     | some b => commandWord b
     | none => 0x000#12)

/-- The stimulus words a trace entry stands for (30_encoding.md R67). -/
def TraceItem.words (c : Config) : TraceItem → List StimWord
  | .rst => [0x800#12]
  | .cycle evt tick cmd => [cycleWord evt tick cmd]
  | .evtTimes n => List.replicate n 0x400#12
  | .tickTimes n => List.replicate n 0x200#12
  | .window => List.replicate c.windowTicks 0x200#12
  | .rd => [0x000#12]
  | .hold => [0x148#12]
  | .filt => [0x146#12]
  | .psc => [0x150#12]
  | .cal => [0x14F#12]
  | .nl => [0x10D#12]

/-- The stimulus words of a trace. -/
def traceWords (c : Config) (tr : List TraceItem) : List StimWord := tr.flatMap (TraceItem.words c)

end Sys2Proof
end

