-- ==== Sys2Proof/Machine/State.lean ====
section
/-! DEFINITION. The state of WCX: the twelve registers of 10_state.md R10, the registered output `echo` (20_memory.md R42), and the model's own fields (parameters, input words, cycle counter). -/

namespace Sys2Proof.Machine

/-- The state of the machine. A register of more than one bit is a natural number below 2^width, its width being a parameter (log entry 1); every write reduces to the width (Sys2Proof/Machine/Ops.lean). -/
@[ext]
structure State where
  /-- The model's own: the parameters of 00_scope.md R3, written by no operation (log entry 2). -/
  cfg : Config
  /-- CNT, the narrow counter (10_state.md R11). -/
  cnt : Nat
  /-- ROC, the overflow accumulator (10_state.md R12). -/
  roc : Nat
  /-- WF, the snapshot register (10_state.md R13). -/
  wf : Nat
  /-- TICK, the tick counter (10_state.md R14). -/
  tick : Nat
  /-- PRES, the divider residue (10_state.md R15). -/
  pres : Nat
  /-- HOLD (10_state.md R16). -/
  hold : Bool
  /-- FILT_IDX (10_state.md R17). -/
  filtIdx : Nat
  /-- PSC_IDX (10_state.md R18). -/
  pscIdx : Nat
  /-- CAL_IDX (10_state.md R19). -/
  calIdx : Nat
  /-- WARM (10_state.md R20). -/
  warm : Bool
  /-- VALID (10_state.md R21). -/
  valid : Bool
  /-- WTOG (10_state.md R22). -/
  wtog : Bool
  /-- The output port `echo` as the last step left it (20_memory.md R42, 90_conflicts.md C7; log entry 3). -/
  echo : Bool
  /-- The model's own: the stimulus words the environment will present, next one first (log entry 4). -/
  input : List StimWord
  /-- The model's own: a plain count of the steps taken, read only to pick a free stimulus word (log entry 4). -/
  cycle : Nat
  deriving DecidableEq, Repr

/-- WCX has no fault outcome (60_exceptions.md R150), so no reason exists: nobody raises one. -/
inductive Fault where
  deriving DecidableEq, Repr

/-- Why a step may have no meaning. -/
inductive Refusal where
  /-- An operation without a meaning yet, raised by an arm of exec alone; safe. No arm raises it. -/
  | notModelled (mnemonic : String)
  /-- The state's parameters break 00_scope.md R4: "a model should refuse it", raised by every meaning; safe (R150: "the only refusal"). -/
  | parametersBreakR4
  deriving DecidableEq, Repr

/-- The machine right after power-on or reset: all twelve registers and `echo` zero (10_state.md R31, 70_reset_and_hazards.md R170, R172), in the reference configuration (log entry 2), with no input word listed (log entry 4). -/
def State.reset : State where
  cfg := Config.reference
  cnt := 0
  roc := 0
  wf := 0
  tick := 0
  pres := 0
  hold := false
  filtIdx := 0
  pscIdx := 0
  calIdx := 0
  warm := false
  valid := false
  wtog := false
  echo := false
  input := []
  cycle := 0

end Sys2Proof.Machine
end

