-- ==== Sys2Proof/Machine/Ops.lean ====
section
/-! DEFINITION. The operations every meaning is built from: the check of the parameters (00_scope.md R4), the writes of the registers, table lookup (20_memory.md R43), the input words, and performing an operation. -/

namespace Sys2Proof

/-- The constraints of 00_scope.md R4. ROC_WIDTH = WF_WIDTH is checked; RANGE = 2^CNT_WIDTH and MAXV = RANGE - 1 hold by definition. -/
def Config.valid (c : Config) : Bool :=
  decide (1 ≤ c.cntWidth) && decide (c.cntWidth < c.rocWidth) && decide (c.rocWidth = c.wfWidth) &&
  decide (1 ≤ c.windowTicks) && decide (c.windowTicks < 2 ^ c.tickWidth) &&
  decide (1 ≤ c.filtLen) && decide (1 ≤ c.calLen) &&
  decide (c.pscExp[0]? = some 0) &&
  c.pscExp.all fun e => decide (e ≤ c.presWidth) && decide (e < c.wfWidth)

namespace Machine

/-! Writes. `REG <- v` needs a value of the register's width (00_scope.md section 5); the write reduces to it, so that no register outgrows its width. -/

namespace State

/-- `CNT <- v` (10_state.md R11). -/
def setCnt (v : Nat) (s : State) : State := { s with cnt := v % s.cfg.range }

/-- `ROC <- v` (10_state.md R12). -/
def setRoc (v : Nat) (s : State) : State := { s with roc := v % 2 ^ s.cfg.rocWidth }

/-- `WF <- v`, all WF_WIDTH bits in one step (10_state.md R13, 20_memory.md R44). -/
def setWf (v : Nat) (s : State) : State := { s with wf := v % 2 ^ s.cfg.wfWidth }

/-- `TICK <- v` (10_state.md R14). -/
def setTick (v : Nat) (s : State) : State := { s with tick := v % 2 ^ s.cfg.tickWidth }

/-- `PRES <- v` (10_state.md R15). -/
def setPres (v : Nat) (s : State) : State := { s with pres := v % 2 ^ s.cfg.presWidth }

/-- `HOLD <- b` (10_state.md R16). -/
def setHold (b : Bool) (s : State) : State := { s with hold := b }

/-- `FILT_IDX <- v mod FILT_LEN` (10_state.md R17, R29). -/
def setFiltIdx (v : Nat) (s : State) : State := { s with filtIdx := v % s.cfg.filtLen }

/-- `PSC_IDX <- v mod PSC_LEN` (10_state.md R18, R29). -/
def setPscIdx (v : Nat) (s : State) : State := { s with pscIdx := v % s.cfg.pscLen }

/-- `CAL_IDX <- v mod CAL_LEN` (10_state.md R19, R29). -/
def setCalIdx (v : Nat) (s : State) : State := { s with calIdx := v % s.cfg.calLen }

/-- `WARM <- b` (10_state.md R20). -/
def setWarm (b : Bool) (s : State) : State := { s with warm := b }

/-- `VALID <- b` (10_state.md R21). -/
def setValid (b : Bool) (s : State) : State := { s with valid := b }

/-- `WTOG <- b` (10_state.md R22). -/
def setWtog (b : Bool) (s : State) : State := { s with wtog := b }

/-- The `echo` a step returns (30_encoding.md R61, 20_memory.md R42). -/
def setEcho (b : Bool) (s : State) : State := { s with echo := b }

/-- The stimulus word of the next cycle: the next one listed, else one nothing is known of (log entry 4). -/
def nextWord (s : State) : StimWord :=
  match s.input with
  | [] => Config.freeStimulus s.cycle
  | w :: _ => w

/-- The start of a cycle: its stimulus word is taken from the list, and `echo <- 0` (30_encoding.md R61). -/
def beginCycle (s : State) : State :=
  { s with input := s.input.tail, cycle := s.cycle + 1, echo := false }

/-- A stimulus word presented as the very next one. -/
def placeWord (w : StimWord) (s : State) : State := { s with input := w :: s.input }

end State

/-- `TableRead(T, i)`, entry `i` of the constant table `T` (20_memory.md R43); a free value where R43 defines none (log entry 6). -/
def tableRead (t : List Nat) (i : Nat) : Nat :=
  match t[i]? with
  | some e => e
  | none => Config.freeTableEntry t i

/-- An operation performed: it takes the state to one next state (20_memory.md R49), in every configuration 00_scope.md R4 admits; any other configuration is refused (R4, 60_exceptions.md R150). -/
def perform (op : State → State) (s : State) : Host.Outcome State Fault Refusal :=
  if s.cfg.valid then .next (op s) else .refused .parametersBreakR4

/-- One operation after another: the second sees the state the first left (20_memory.md R49). -/
def andThen (o : Host.Outcome State Fault Refusal) (f : State → Host.Outcome State Fault Refusal) :
    Host.Outcome State Fault Refusal :=
  match o with
  | .next s => f s
  | .fault r => .fault r
  | .refused r => .refused r

end Machine

end Sys2Proof
end

