-- ==== Sys2Proof/Machine/Operands.lean ====
section
/-! DEFINITION. The operands the operations compute with: the divide exponent both the divider and the scaling read (10_state.md R23, 41_window.md R110), the extended count and the scaled count of step F1 (41_window.md R102). -/

namespace Sys2Proof.Machine

/-- `e <- PSC_EXP[PSC_IDX]`: the one lookup of the divide exponent (10_state.md R23, 41_window.md R110). -/
def exponent (s : State) : Nat := tableRead s.cfg.pscExp s.pscIdx

/-- `sum <- (ROC + zext(CNT)) mod 2^ROC_WIDTH` (41_window.md R102, R109). -/
def extendedCount (s : State) : Nat := (s.roc + s.cnt) % 2 ^ s.cfg.rocWidth

/-- `(sum << e) mod 2^WF_WIDTH`: the compensation for divided-down counting (41_window.md R102). -/
def scaledCount (s : State) : Nat := (extendedCount s <<< exponent s) % 2 ^ s.cfg.wfWidth

end Sys2Proof.Machine
end

