-- ==== Sys2Proof/Machine/Flags.lean ====
section
/-! DEFINITION. The flags: HOLD, and the status flags VALID, WARM and WTOG (10_state.md section 6). WCX has no condition codes: no operation records a wrap (41_window.md R111). -/

namespace Sys2Proof.Machine

/-- `HOLD <- not HOLD` (42_control.md R121). -/
def toggledHold (s : State) : Bool := !s.hold

/-- `if WARM = 1 then VALID <- 1`, in a step F1 that writes WF (41_window.md R102, 10_state.md R21). -/
def validAfterCapture (s : State) : Bool := if s.warm then true else s.valid

/-- `WTOG <- not WTOG` (41_window.md R105, 10_state.md R22). -/
def toggledWtog (s : State) : Bool := !s.wtog

end Sys2Proof.Machine
end

