-- ==== Sys2Proof/Machine/Counting.lean ====
section
/-! DEFINITION. The counting family: OVF, COUNT, EVT, SETCNT (40_counting.md). -/

namespace Sys2Proof.Machine

/-- `do OVF` (40_counting.md R82). -/
def doOvf (s : State) : State := s.setRoc (s.roc + s.cfg.range)

/-- `do COUNT` (40_counting.md R81): the wrap raises its OVF in the same step. -/
def doCount (s : State) : State :=
  if s.cnt = s.cfg.maxv then doOvf (s.setCnt 0) else s.setCnt (s.cnt + 1)

/-- `do EVT` (40_counting.md R80): the last event of a group of 2^e is passed on. -/
def doEvt (s : State) : State :=
  if s.pres = 2 ^ exponent s - 1 then doCount (s.setPres 0) else s.setPres (s.pres + 1)

/-- `do SETCNT(v)` (40_counting.md R85): only a write of 0 over MAXV raises an OVF. -/
def doSetcnt (v : Nat) (s : State) : State :=
  let old := s.cnt
  let written := s.setCnt v
  if old = s.cfg.maxv ∧ v = 0 then doOvf written else written

/-- OVF (40_counting.md R82). -/
def execOvf (s : State) : Host.Outcome State Fault Refusal := perform doOvf s

/-- COUNT (40_counting.md R81). -/
def execCount (s : State) : Host.Outcome State Fault Refusal := perform doCount s

/-- EVT (40_counting.md R80). -/
def execEvt (s : State) : Host.Outcome State Fault Refusal := perform doEvt s

/-- SETCNT(v) (40_counting.md R85). -/
def execSetcnt (v : Nat) (s : State) : Host.Outcome State Fault Refusal := perform (doSetcnt v) s

end Sys2Proof.Machine
end

