-- ==== Sys2Proof/Machine/Window.lean ====
section
/-! DEFINITION. The window family: TICK and FINALIZE with its steps (41_window.md). -/

namespace Sys2Proof.Machine

/-- F1: capture and scale, unless held (41_window.md R102). -/
def finalizeF1 (s : State) : State :=
  if s.hold then s else (s.setWf (scaledCount s)).setValid (validAfterCapture s)

/-- F2a: `do SETCNT(MAXV)` (41_window.md R103). -/
def finalizeF2a (s : State) : State := doSetcnt s.cfg.maxv s

/-- F2b: `do SETCNT(0)`, the one synthetic overflow (41_window.md R103). -/
def finalizeF2b (s : State) : State := doSetcnt 0 s

/-- F3: `ROC <- 0` (41_window.md R104). -/
def finalizeF3 (s : State) : State := s.setRoc 0

/-- F4: `WARM <- 1`, `WTOG <- not WTOG`, `TICK <- 0` (41_window.md R105). -/
def finalizeF4 (s : State) : State := ((s.setWarm true).setWtog (toggledWtog s)).setTick 0

/-- `do FINALIZE`: F1, F2a, F2b, F3, F4 in this order, as one operation (41_window.md R101). -/
def doFinalize (s : State) : State :=
  finalizeF4 (finalizeF3 (finalizeF2b (finalizeF2a (finalizeF1 s))))

/-- `do TICK`: the comparison comes after the increment (41_window.md R100). -/
def doTick (s : State) : State :=
  let counted := s.setTick (s.tick + 1)
  if counted.tick = counted.cfg.windowTicks then doFinalize counted else counted

/-- TICK (41_window.md R100). -/
def execTick (s : State) : Host.Outcome State Fault Refusal := perform doTick s

/-- FINALIZE (41_window.md R101). -/
def execFinalize (s : State) : Host.Outcome State Fault Refusal := perform doFinalize s

end Sys2Proof.Machine
end

