-- ==== Sys2Proof/Machine/Control.lean ====
section
/-! DEFINITION. The control family: the operations CMD dispatches to (42_control.md). Each returns the `echo` of its cycle (R120). -/

namespace Sys2Proof.Machine

/-- `do TOGGLE_HOLD` (42_control.md R121). -/
def doToggleHold (s : State) : State := s.setHold (toggledHold s)

/-- `do CYCLE_FILT` (42_control.md R122). -/
def doCycleFilt (s : State) : State := s.setFiltIdx (s.filtIdx + 1)

/-- `do CYCLE_PSC` (42_control.md R123): the residue is cleared with the change. -/
def doCyclePsc (s : State) : State := (s.setPscIdx (s.pscIdx + 1)).setPres 0

/-- `do CYCLE_CAL` (42_control.md R124). -/
def doCycleCal (s : State) : State := s.setCalIdx (s.calIdx + 1)

/-- `do ECHO`: no register, `echo` 1 (42_control.md R125). -/
def doEcho (s : State) : State := s.setEcho true

/-- `do CMD_NOP`: no register (42_control.md R126). -/
def doCmdNop (s : State) : State := s

/-- A command operation that returns `echo` = 0 (42_control.md R120). -/
def withoutEcho (op : State → State) (s : State) : State := (op s).setEcho false

/-- CYCLE_CAL; the case bit is ignored (42_control.md R124, 30_encoding.md R63). -/
def execCycleCal (_lower : Bool) (s : State) : Host.Outcome State Fault Refusal :=
  perform (withoutEcho doCycleCal) s

/-- TOGGLE_HOLD; the case bit is ignored (42_control.md R121, 30_encoding.md R63). -/
def execToggleHold (_lower : Bool) (s : State) : Host.Outcome State Fault Refusal :=
  perform (withoutEcho doToggleHold) s

/-- CYCLE_FILT; the case bit is ignored (42_control.md R122, 30_encoding.md R63). -/
def execCycleFilt (_lower : Bool) (s : State) : Host.Outcome State Fault Refusal :=
  perform (withoutEcho doCycleFilt) s

/-- CYCLE_PSC; the case bit is ignored (42_control.md R123, 30_encoding.md R63). -/
def execCyclePsc (_lower : Bool) (s : State) : Host.Outcome State Fault Refusal :=
  perform (withoutEcho doCyclePsc) s

/-- ECHO on a line feed (42_control.md R125). -/
def execEchoLf (s : State) : Host.Outcome State Fault Refusal := perform doEcho s

/-- ECHO on a carriage return (42_control.md R125). -/
def execEchoCr (s : State) : Host.Outcome State Fault Refusal := perform doEcho s

/-- CMD_NOP; the byte is ignored (42_control.md R126). -/
def execCmdNop (_b : Byte) (s : State) : Host.Outcome State Fault Refusal :=
  perform (withoutEcho doCmdNop) s

end Sys2Proof.Machine
end

