-- ==== Sys2Proof/Machine/Snapshot.lean ====
section
/-! DEFINITION. The snapshot family: IDLE, and the observation RD of the output ports (43_snapshot.md, 20_memory.md R42). -/

namespace Sys2Proof.Machine

/-- `do IDLE`: no register, `echo` 0 (43_snapshot.md R143). -/
def doIdle (s : State) : State := s.setEcho false

/-- IDLE (43_snapshot.md R143). -/
def execIdle (s : State) : Host.Outcome State Fault Refusal := perform doIdle s

/-- The values of the output ports (20_memory.md R42). -/
structure Outputs where
  wf : Nat
  valid : Bool
  wtog : Bool
  hold : Bool
  filtIdx : Nat
  pscIdx : Nat
  pscExp : Nat
  calIdx : Nat
  echo : Bool
  deriving DecidableEq, Repr

/-- `Out(s)`, and the pulse `echo` beside it (43_snapshot.md R140, 20_memory.md R42). CNT, ROC, TICK, PRES and WARM are on no port. -/
def out (s : State) : Outputs where
  wf := s.wf
  valid := s.valid
  wtog := s.wtog
  hold := s.hold
  filtIdx := s.filtIdx
  pscIdx := s.pscIdx
  pscExp := exponent s
  calIdx := s.calIdx
  echo := s.echo

end Sys2Proof.Machine
end

