-- ==== Sys2Proof/Machine/Reset.lean ====
section
/-! DEFINITION. RESET (70_reset_and_hazards.md R170). -/

namespace Sys2Proof.Machine

/-- `do RESET`: all twelve registers 0, `echo` 0 (70_reset_and_hazards.md R170). Parameters and input words are no registers and stay. -/
def doReset (s : State) : State :=
  { s with
    cnt := 0, roc := 0, wf := 0, tick := 0, pres := 0
    hold := false, filtIdx := 0, pscIdx := 0, calIdx := 0
    warm := false, valid := false, wtog := false
    echo := false }

/-- RESET (70_reset_and_hazards.md R170). -/
def execReset (s : State) : Host.Outcome State Fault Refusal := perform doReset s

end Sys2Proof.Machine
end

