-- ==== Sys2Proof/Machine/Dispatch.lean ====
section
/-! DEFINITION. One arm per operation. -/

namespace Sys2Proof.Machine

def exec (i : Instr) (s : State) : Host.Outcome State Fault Refusal :=
  match i with
  | .reset => Sys2Proof.Machine.execReset s
  | .idle => Sys2Proof.Machine.execIdle s
  | .evt => Sys2Proof.Machine.execEvt s
  | .tick => Sys2Proof.Machine.execTick s
  | .cycleCal lower => Sys2Proof.Machine.execCycleCal lower s
  | .toggleHold lower => Sys2Proof.Machine.execToggleHold lower s
  | .cycleFilt lower => Sys2Proof.Machine.execCycleFilt lower s
  | .cyclePsc lower => Sys2Proof.Machine.execCyclePsc lower s
  | .echoLf => Sys2Proof.Machine.execEchoLf s
  | .echoCr => Sys2Proof.Machine.execEchoCr s
  | .cmdNop b => Sys2Proof.Machine.execCmdNop b s
  | .count => Sys2Proof.Machine.execCount s
  | .ovf => Sys2Proof.Machine.execOvf s
  | .setcnt v => Sys2Proof.Machine.execSetcnt v s
  | .finalize => Sys2Proof.Machine.execFinalize s

end Sys2Proof.Machine
end

