-- ==== Sys2Proof/Machine/Cycle.lean ====
section
/-! DEFINITION. One clock cycle: the operations of a stimulus word, performed in their order (30_encoding.md R61). -/

namespace Sys2Proof.Machine

/-- The operations of a list, one after another, each on the state the previous one left (20_memory.md R49). -/
def execAll : List Instr → State → Host.Outcome State Fault Refusal
  | [], s => .next s
  | i :: is, s => andThen (exec i s) (execAll is)

/-- `Step(s, w)` (30_encoding.md R61), on a state whose cycle has begun (`echo` is 0). -/
def runWord (w : StimWord) (s : State) : Host.Outcome State Fault Refusal := execAll (decodeCycle w) s

/-- One cycle: the next stimulus word is taken and its operations are performed. -/
def cycleStep (s : State) : Host.Outcome State Fault Refusal := runWord s.nextWord s.beginCycle

/-- The stimulus word of a row's bits, presented as the next one: the low 12 of the bits given. -/
def presentBits (s : State) (nbits w : Nat) : State := s.placeWord (BitVec.ofNat 12 (w % 2 ^ nbits))

end Sys2Proof.Machine
end

