-- ==== Sys2Proof/Machine/Step.lean ====
section
/-! DEFINITION. One step of the machine is one clock cycle (30_encoding.md R61), and how the host presents a stimulus word. -/

namespace Sys2Proof.Machine

/-- One clock cycle (30_encoding.md R61, 70_reset_and_hazards.md R184). -/
def step (s : State) : Host.Outcome State Fault Refusal := cycleStep s

/-- The state with a row's word as the next stimulus word; WCX fetches nothing (10_state.md R24), its operations come in on its input ports (log entry 5). -/
def State.withFetchWord (s : State) (nbits w : Nat) : State := presentBits s nbits w

end Sys2Proof.Machine
end

