-- ==== Sys2Proof/Safety.lean ====
section
/-! DEFINITION. What claims about WCX are said with: the invariants of 10_state.md R26 to R30, runs over stimulus words (70_reset_and_hazards.md R186), the strobes a run holds, and what a reader may surface (43_snapshot.md R141). -/

namespace Sys2Proof.Machine

/-- Each data register holds a value of its width, and TICK is below WINDOW_TICKS between operations (10_state.md R11 to R14, R28). -/
abbrev State.InWidth (s : State) : Prop :=
  s.cnt < s.cfg.range ∧ s.roc < 2 ^ s.cfg.rocWidth ∧ s.wf < 2 ^ s.cfg.wfWidth ∧ s.tick < s.cfg.windowTicks

/-- `ROC mod RANGE = 0` (10_state.md R26). -/
abbrev State.RocAligned (s : State) : Prop := s.roc % s.cfg.range = 0

/-- `PRES < 2^PSC_EXP[PSC_IDX]` (10_state.md R27). -/
abbrev State.ResidueInGroup (s : State) : Prop := s.pres < 2 ^ exponent s

/-- Every selector stays inside its table (10_state.md R29). -/
abbrev State.IndicesInTable (s : State) : Prop :=
  s.filtIdx < s.cfg.filtLen ∧ s.pscIdx < s.cfg.pscLen ∧ s.calIdx < s.cfg.calLen

/-- `VALID = 1` implies `WARM = 1` (10_state.md R30), and before the first FINALIZE after reset WF has its reset value (10_state.md R13, R20). -/
abbrev State.ColdIsEmpty (s : State) : Prop :=
  (s.valid = true → s.warm = true) ∧ (s.warm = false → s.wf = 0)

/-- The invariants of WCX (10_state.md section 8), in a configuration 00_scope.md R4 admits. -/
abbrev State.Inv (s : State) : Prop :=
  s.cfg.valid = true ∧ s.InWidth ∧ s.RocAligned ∧ s.ResidueInGroup ∧ s.IndicesInTable ∧ s.ColdIsEmpty

/-- All twelve registers have their reset value 0 (10_state.md R31). -/
abbrev State.RegistersZero (s : State) : Prop :=
  s.cnt = 0 ∧ s.roc = 0 ∧ s.wf = 0 ∧ s.tick = 0 ∧ s.pres = 0 ∧ s.hold = false ∧ s.filtIdx = 0 ∧ s.pscIdx = 0 ∧
    s.calIdx = 0 ∧ s.warm = false ∧ s.valid = false ∧ s.wtog = false

/-- The state with a sequence of stimulus words as what the environment presents. -/
def State.withInput (s : State) (ws : List StimWord) : State := { s with input := ws }

/-- A finite run: the words presented one a cycle, and nothing after them (70_reset_and_hazards.md R186). -/
def runWords (ws : List StimWord) (s : State) : Host.Outcome State Fault Refusal :=
  Host.Core.run Sys2Proof.core ws.length (s.withInput ws)

/-- The same operation a number of times. -/
def execTimes (n : Nat) (i : Instr) (s : State) : Host.Outcome State Fault Refusal :=
  execAll (List.replicate n i) s

/-- How many EVT operations a sequence of words causes (30_encoding.md R61, R62). -/
def evtCount (ws : List StimWord) : Nat := ws.countP fun w => !Stim.rst w && Stim.evt w

/-- How many TICK operations a sequence of words causes (30_encoding.md R61, R62). -/
def tickCount (ws : List StimWord) : Nat := ws.countP fun w => !Stim.rst w && Stim.tick w

/-- The word causes the command operation of one of the given rows (30_encoding.md R61, R64). -/
def commands (w : StimWord) (op : OpName) : Bool :=
  !Stim.rst w && Stim.cv w && (decodeCommand (Stim.cb w)).opName == op

/-- What a reader that keeps its duty surfaces: `wf`, once `valid` is 1 (43_snapshot.md R141). -/
def surfaced (o : Outputs) : Option Nat := if o.valid then some o.wf else none

/-- A safe run: no stop at any step (70_reset_and_hazards.md R186). -/
def RunsOn (ws : List StimWord) (s : State) : Prop := ∃ t, runWords ws s = .next t

end Sys2Proof.Machine
end

