-- ==== Sys2Proof/Certificates/Slice0/Obligations.lean ====
section
/-! DEFINITION. The statements about WCX for the provers. A divide exponent `e` is named by `s.cfg.pscExp[s.pscIdx]? = some e`, the entry of the table, never by the model's own lookup. Bits of a stimulus word are named by number (30_encoding.md R60: 11 rst, 10 evt, 9 tick, 8 cv, 7:0 cb). -/

open Sys2Proof Sys2Proof.Machine

/-! ### Reset and the parameters -/

/-- 70_reset_and_hazards.md R172: power-on is the state RESET leaves, in the reference configuration; all twelve registers zero (10_state.md R31; eight of the zeros are the spec's decision D6). -/
def Obligations.PowerOnStateIsWhatResetLeaves : Prop :=
  State.reset.RegistersZero ∧ State.reset.echo = false ∧
  ∀ s : State, s.cfg = Config.reference →
    exec .reset s = .next { State.reset with input := s.input, cycle := s.cycle }

/-- 70_reset_and_hazards.md R170: RESET in any state writes 0 to all twelve registers, `echo` is 0, nothing else changes. -/
def Obligations.ResetClearsEveryRegister : Prop :=
  ∀ s : State, s.cfg.valid = true →
    exec .reset s = .next
      { s with
        cnt := 0, roc := 0, wf := 0, tick := 0, pres := 0, hold := false, filtIdx := 0, pscIdx := 0, calIdx := 0
        warm := false, valid := false, wtog := false, echo := false }

/-- 30_encoding.md R62: a cycle with `rst` performs RESET and nothing else, whatever the other eleven bits are. -/
def Obligations.ResetDominatesTheCycle : Prop :=
  ∀ (s : State) (w : StimWord) (ws : List StimWord), s.cfg.valid = true → s.input = w :: ws →
    w.getLsbD 11 = true →
    step s = .next
      { s with
        cnt := 0, roc := 0, wf := 0, tick := 0, pres := 0, hold := false, filtIdx := 0, pscIdx := 0, calIdx := 0
        warm := false, valid := false, wtog := false, echo := false, input := ws, cycle := s.cycle + 1 }

/-- 00_scope.md R4: the constraints a legal parameter set obeys. -/
def Obligations.LegalParametersObeyTheConstraints : Prop :=
  ∀ c : Config, c.range = 2 ^ c.cntWidth ∧ c.maxv = c.range - 1 ∧
    (c.valid = true ↔
      (1 ≤ c.cntWidth ∧ c.cntWidth < c.rocWidth) ∧ c.rocWidth = c.wfWidth ∧
      (1 ≤ c.windowTicks ∧ c.windowTicks < 2 ^ c.tickWidth) ∧
      (1 ≤ c.pscExp.length ∧ 1 ≤ c.filtLen ∧ 1 ≤ c.calLen) ∧ c.pscExp[0]? = some 0 ∧
      ∀ (i e : Nat), c.pscExp[i]? = some e → e ≤ c.presWidth ∧ e < c.wfWidth)

/-- 60_exceptions.md R150: every operation and every step has a next state, so every finite run goes on (70_reset_and_hazards.md R186); the only refusal is of parameters that break 00_scope.md R4. -/
def Obligations.OnlyIllegalParametersAreRefused : Prop :=
  ∀ s : State,
    (s.cfg.valid = true →
      (∃ t, step s = .next t) ∧ (∀ i : Instr, ∃ t, exec i s = .next t) ∧ ∀ ws : List StimWord, RunsOn ws s) ∧
    (s.cfg.valid = false →
      step s = .refused .parametersBreakR4 ∧ ∀ i : Instr, exec i s = .refused .parametersBreakR4)

/-- 20_memory.md R53: no operation and no step writes a table (nor any other parameter); a step takes one stimulus word. -/
def Obligations.TablesAreNeverWritten : Prop :=
  (∀ (i : Instr) (s t : State), exec i s = .next t → t.cfg = s.cfg ∧ t.input = s.input ∧ t.cycle = s.cycle) ∧
  ∀ s t : State, step s = .next t → t.cfg = s.cfg ∧ t.input = s.input.tail ∧ t.cycle = s.cycle + 1

/-! ### The counting family -/

/-- 40_counting.md R80, with R81 and R82 for the count it passes on: EVT in a state whose registers are legal. -/
def Obligations.EvtPassesOnTheLastEventOfAGroup : Prop :=
  ∀ (s : State) (e : Nat), s.cfg.valid = true → s.cfg.pscExp[s.pscIdx]? = some e → s.pres < 2 ^ e →
    s.cnt < s.cfg.range →
    exec .evt s = .next
      (if s.pres = 2 ^ e - 1 then
        (if s.cnt = s.cfg.range - 1 then
          { s with pres := 0, cnt := 0, roc := (s.roc + s.cfg.range) % 2 ^ s.cfg.rocWidth }
        else { s with pres := 0, cnt := s.cnt + 1 })
      else { s with pres := s.pres + 1 })

/-- 40_counting.md R81. -/
def Obligations.CountWrapsWithOneOverflow : Prop :=
  ∀ s : State, s.cfg.valid = true → s.cnt < s.cfg.range →
    exec .count s = .next
      (if s.cnt = s.cfg.range - 1 then
        { s with cnt := 0, roc := (s.roc + s.cfg.range) % 2 ^ s.cfg.rocWidth }
      else { s with cnt := s.cnt + 1 })

/-- 40_counting.md R82: RANGE is added to ROC, modulo 2^ROC_WIDTH. -/
def Obligations.OverflowAddsTheRange : Prop :=
  ∀ s : State, s.cfg.valid = true →
    exec .ovf s = .next { s with roc := (s.roc + 2 ^ s.cfg.cntWidth) % 2 ^ s.cfg.rocWidth }

/-- SETCNT of any CNT_WIDTH-bit value raises an OVF only when 0 is written over MAXV: 40_counting.md R85. That 0 written over a CNT other than MAXV is performed as R85 gives it, where 93_implementation_defined.md I6 would have it refused, is the model's choice (log entry 7, DEDUCED); no step performs that write. -/
def Obligations.SetcntOverflowsOnlyOnAForcedWrap : Prop :=
  ∀ (s : State) (v : Nat), s.cfg.valid = true → v < s.cfg.range →
    exec (.setcnt v) s = .next
      { s with
        cnt := v
        roc := if s.cnt = s.cfg.range - 1 ∧ v = 0 then (s.roc + s.cfg.range) % 2 ^ s.cfg.rocWidth else s.roc }

/-- 40_counting.md R83: any number of COUNT operations, over every wrap of CNT and of ROC. -/
def Obligations.CountingLaw : Prop :=
  ∀ (n : Nat) (s : State), s.Inv →
    ∃ t, execTimes n .count s = .next t ∧ t = { s with cnt := t.cnt, roc := t.roc } ∧
      t.roc + t.cnt = (s.roc + s.cnt + n) % 2 ^ s.cfg.rocWidth ∧
      (s.cnt = 0 → s.roc = 0 → n < 2 ^ s.cfg.rocWidth →
        t.roc = s.cfg.range * (n / s.cfg.range) ∧ t.cnt = n % s.cfg.range)

/-- 40_counting.md R84: any number of EVT operations under one prescaler setting; the quotient is the number of counts passed on and the remainder the residue. -/
def Obligations.DividerLaw : Prop :=
  ∀ (n : Nat) (s : State) (e : Nat), s.Inv → s.cfg.pscExp[s.pscIdx]? = some e →
    ∃ t, execTimes n .evt s = .next t ∧ t = { s with pres := t.pres, cnt := t.cnt, roc := t.roc } ∧
      t.pres = (s.pres + n) % 2 ^ e ∧
      t.roc + t.cnt = (s.roc + s.cnt + (s.pres + n) / 2 ^ e) % 2 ^ s.cfg.rocWidth

/-- 40_counting.md R86: the counting family writes none of WF, TICK, HOLD, FILT_IDX, CAL_IDX, WARM, VALID, WTOG (nor PSC_IDX or `echo`), and none of those it does not read changes what it does. -/
def Obligations.CountingFamilyFrame : Prop :=
  ∀ (i : Instr) (s t : State), (i = .evt ∨ i = .count ∨ i = .ovf ∨ ∃ v, i = .setcnt v) → exec i s = .next t →
    t = { s with cnt := t.cnt, roc := t.roc, pres := t.pres } ∧ (i ≠ .evt → t.pres = s.pres) ∧
    ∀ (wf tick filt cal : Nat) (hold warm valid wtog : Bool),
      exec i { s with wf := wf, tick := tick, filtIdx := filt, calIdx := cal, hold := hold, warm := warm,
                      valid := valid, wtog := wtog } =
        .next { t with wf := wf, tick := tick, filtIdx := filt, calIdx := cal, hold := hold, warm := warm,
                       valid := valid, wtog := wtog }

/-! ### The window family -/

/-- 41_window.md R100: the comparison is made after the increment; only TICK changes inside a window, and the boundary performs FINALIZE. -/
def Obligations.TickCountsAndFinalizesAtTheBoundary : Prop :=
  ∀ s : State, s.cfg.valid = true → s.tick < s.cfg.windowTicks →
    (s.tick + 1 < s.cfg.windowTicks → exec .tick s = .next { s with tick := s.tick + 1 }) ∧
    (s.tick + 1 = s.cfg.windowTicks → exec .tick s = exec .finalize { s with tick := s.cfg.windowTicks } ∧
      ∃ t, exec .tick s = .next t ∧ t.tick = 0)

/-- 41_window.md R101 to R105: FINALIZE is F1 (capture and scale unless held), F2a, F2b (SETCNT(MAXV), SETCNT(0)), F3 and F4, in this order. -/
def Obligations.FinalizeRunsItsFiveSteps : Prop :=
  ∀ (s : State) (e : Nat), s.cfg.valid = true → s.cfg.pscExp[s.pscIdx]? = some e →
    exec .finalize s =
      andThen
        (andThen
          (exec (.setcnt (s.cfg.range - 1))
            (if s.hold then s
             else
              { s with
                wf := (((s.roc + s.cnt) % 2 ^ s.cfg.rocWidth) * 2 ^ e) % 2 ^ s.cfg.wfWidth
                valid := if s.warm then true else s.valid }))
          (exec (.setcnt 0)))
        (fun b => .next { b with roc := 0, warm := true, wtog := !b.wtog, tick := 0 })

/-- 41_window.md R106: the net effect of FINALIZE, whatever CNT, ROC and TICK hold. -/
def Obligations.FinalizeNetEffect : Prop :=
  ∀ (s : State) (e : Nat), s.cfg.valid = true → s.cfg.pscExp[s.pscIdx]? = some e →
    exec .finalize s = .next
      { s with
        wf := if s.hold then s.wf else ((s.roc + s.cnt) * 2 ^ e) % 2 ^ s.cfg.wfWidth
        valid := if s.hold then s.valid else s.valid || s.warm
        cnt := 0, roc := 0, tick := 0, warm := true, wtog := !s.wtog }

/-- 41_window.md R103: writing MAXV raises no overflow and the 0 after it exactly one, whatever CNT held. -/
def Obligations.ForcedResetRaisesExactlyOneOverflow : Prop :=
  ∀ s : State, s.cfg.valid = true →
    exec (.setcnt s.cfg.maxv) s = .next { s with cnt := s.cfg.range - 1 } ∧
    andThen (exec (.setcnt s.cfg.maxv) s) (exec (.setcnt 0)) =
      .next { s with cnt := 0, roc := (s.roc + s.cfg.range) % 2 ^ s.cfg.rocWidth }

/-- 41_window.md R109, 10_state.md R26: the sum of step F1 is the concatenation of ROC's upper part and CNT, without carry or wrap. -/
def Obligations.ExtendedCountIsAConcatenation : Prop :=
  ∀ s : State, s.Inv →
    (s.roc + s.cnt) % s.cfg.range = s.cnt ∧ (s.roc + s.cnt) / s.cfg.range = s.roc / s.cfg.range ∧
    s.roc + s.cnt < 2 ^ s.cfg.rocWidth ∧ extendedCount s = s.roc + s.cnt

/-- 41_window.md R107: over any window from its start to its boundary, with any commands but a prescaler change and no reset inside it, the boundary writes the window's count times 2^e when hold is clear, and leaves WF when it is set; the next window starts from zero. `last` is the boundary cycle's word. -/
def Obligations.WindowLaw : Prop :=
  ∀ (s : State) (e : Nat) (ws : List StimWord) (last : StimWord), s.Inv →
    s.cfg.pscExp[s.pscIdx]? = some e → s.cnt = 0 → s.roc = 0 → s.tick = 0 →
    (∀ w ∈ ws, w.getLsbD 11 = false ∧ commands w .cyclePsc = false) →
    tickCount ws + 1 = s.cfg.windowTicks → last.getLsbD 11 = false → last.getLsbD 9 = true →
    ∃ m t, runWords ws s = .next m ∧ runWords (ws ++ [last]) s = .next t ∧
      (m.hold = false →
        t.wf = ((s.pres + evtCount (ws ++ [last])) / 2 ^ e * 2 ^ e) % 2 ^ s.cfg.wfWidth) ∧
      (m.hold = true → t.wf = s.wf ∧ t.valid = s.valid) ∧
      t.cnt = 0 ∧ t.roc = 0 ∧ t.tick = 0 ∧ t.warm = true ∧ t.wtog = !s.wtog

/-- 41_window.md R108, first half: under hold WF and VALID stay as they are over any number of boundaries, whatever else happens but a reset or a release. -/
def Obligations.HoldFreezesTheSnapshot : Prop :=
  ∀ (ws : List StimWord) (s : State), s.cfg.valid = true → s.hold = true →
    (∀ w ∈ ws, w.getLsbD 11 = false ∧ commands w .toggleHold = false) →
    ∃ t, runWords ws s = .next t ∧ t.wf = s.wf ∧ t.valid = s.valid ∧ t.hold = true

/-- 10_state.md R13, R16: a step changes WF only by RESET or at a boundary with HOLD clear; whatever word the environment presents. -/
def Obligations.OnlyAnUnheldBoundaryWritesTheSnapshot : Prop :=
  ∀ s t : State, s.tick < s.cfg.windowTicks → step s = .next t → t.wf ≠ s.wf →
    s.nextWord.getLsbD 11 = true ∨
    (s.nextWord.getLsbD 9 = true ∧ s.tick + 1 = s.cfg.windowTicks ∧ s.hold = false)

/-- 70_reset_and_hazards.md R175 (a) to (d): the boundary cycle. The event of the cycle is counted in the closing window; HOLD and PSC_IDX of before the cycle decide the boundary; the commands take effect after it; a reset discards the window. -/
def Obligations.BoundaryCycleCoincidence : Prop :=
  ∀ (s : State) (e : Nat) (w : StimWord) (ws : List StimWord), s.Inv →
    s.cfg.pscExp[s.pscIdx]? = some e → s.input = w :: ws → w.getLsbD 9 = true →
    s.tick + 1 = s.cfg.windowTicks →
    ∃ t, step s = .next t ∧
      (w.getLsbD 11 = true → t.RegistersZero) ∧
      (w.getLsbD 11 = false →
        (s.hold = true → t.wf = s.wf) ∧
        (s.hold = false →
          t.wf = ((s.roc + s.cnt + (if w.getLsbD 10 = true ∧ s.pres + 1 = 2 ^ e then 1 else 0)) * 2 ^ e) %
            2 ^ s.cfg.wfWidth) ∧
        t.cnt = 0 ∧ t.roc = 0 ∧ t.tick = 0 ∧
        t.hold = (if commands w .toggleHold then !s.hold else s.hold) ∧
        t.pscIdx = (if commands w .cyclePsc then (s.pscIdx + 1) % s.cfg.pscExp.length else s.pscIdx) ∧
        (commands w .cyclePsc = true → t.pres = 0))

/-- 30_encoding.md R67: `WINDOW` from a state with TICK = 0 ends exactly on a boundary, the only one of its cycles; what it leaves is R106. The words consumed and the cycles counted are of the model's own fields `input` and `cycle` (log entry 4). -/
def Obligations.WindowTraceEndsOnABoundary : Prop :=
  ∀ (s : State) (e : Nat), s.Inv → s.cfg.pscExp[s.pscIdx]? = some e → s.tick = 0 →
    runWords (TraceItem.words s.cfg .window) s = .next
      { s with
        wf := if s.hold then s.wf else ((s.roc + s.cnt) * 2 ^ e) % 2 ^ s.cfg.wfWidth
        valid := if s.hold then s.valid else s.valid || s.warm
        cnt := 0, roc := 0, tick := 0, warm := true, wtog := !s.wtog
        echo := false, input := [], cycle := s.cycle + s.cfg.windowTicks }

/-! ### The control family -/

/-- 42_control.md R121, in either case of the letter; `echo` is 0 (R120). -/
def Obligations.ToggleHoldComplementsHold : Prop :=
  ∀ (s : State) (lower : Bool), s.cfg.valid = true →
    exec (.toggleHold lower) s = .next { s with hold := !s.hold, echo := false }

/-- 42_control.md R122, in either case of the letter; `echo` is 0 (R120). -/
def Obligations.CycleFiltAdvancesTheFilterIndex : Prop :=
  ∀ (s : State) (lower : Bool), s.cfg.valid = true →
    exec (.cycleFilt lower) s = .next { s with filtIdx := (s.filtIdx + 1) % s.cfg.filtLen, echo := false }

/-- 42_control.md R123, in either case of the letter; `echo` is 0 (R120). -/
def Obligations.CyclePscAdvancesTheIndexAndClearsTheResidue : Prop :=
  ∀ (s : State) (lower : Bool), s.cfg.valid = true →
    exec (.cyclePsc lower) s =
      .next { s with pscIdx := (s.pscIdx + 1) % s.cfg.pscExp.length, pres := 0, echo := false }

/-- 42_control.md R124, in either case of the letter; `echo` is 0 (R120). -/
def Obligations.CycleCalAdvancesTheCalibrationIndex : Prop :=
  ∀ (s : State) (lower : Bool), s.cfg.valid = true →
    exec (.cycleCal lower) s = .next { s with calIdx := (s.calIdx + 1) % s.cfg.calLen, echo := false }

/-- 42_control.md R125: both newline bytes, no register, `echo` 1. -/
def Obligations.EchoChangesNoRegister : Prop :=
  decodeCommand 0x0A#8 = .echoLf ∧ decodeCommand 0x0D#8 = .echoCr ∧
  ∀ s : State, s.cfg.valid = true →
    exec .echoLf s = .next { s with echo := true } ∧ exec .echoCr s = .next { s with echo := true }

/-- 42_control.md R126: a byte of no other row is CMD_NOP and changes no register; `echo` is 0. -/
def Obligations.UnknownByteIsIgnored : Prop :=
  (∀ b : Byte, b ∉ [0x4F#8, 0x6F#8, 0x48#8, 0x68#8, 0x46#8, 0x66#8, 0x50#8, 0x70#8, 0x0A#8, 0x0D#8] →
    decodeCommand b = .cmdNop b) ∧
  ∀ (s : State) (b : Byte), s.cfg.valid = true → exec (.cmdNop b) s = .next { s with echo := false }

/-- 42_control.md R120: CMD(b), the whole dispatch with each operation's effect and the returned `echo`, for every byte. -/
def Obligations.CommandDispatchOfEveryByte : Prop :=
  ∀ (s : State) (b : Byte), s.cfg.valid = true →
    exec (decodeCommand b) s = .next
      (if b &&& 0xDF#8 = 0x4F#8 then { s with calIdx := (s.calIdx + 1) % s.cfg.calLen, echo := false }
       else if b &&& 0xDF#8 = 0x48#8 then { s with hold := !s.hold, echo := false }
       else if b &&& 0xDF#8 = 0x46#8 then { s with filtIdx := (s.filtIdx + 1) % s.cfg.filtLen, echo := false }
       else if b &&& 0xDF#8 = 0x50#8 then
         { s with pscIdx := (s.pscIdx + 1) % s.cfg.pscExp.length, pres := 0, echo := false }
       else if b = 0x0A#8 ∨ b = 0x0D#8 then { s with echo := true }
       else { s with echo := false })

/-- 42_control.md R128: no command writes CNT, ROC, WF, TICK, WARM, VALID or WTOG; PRES is written by CYCLE_PSC alone. -/
def Obligations.CommandsLeaveTheMeasurementAlone : Prop :=
  ∀ (i : Instr) (s t : State), i.isCommand = true → exec i s = .next t →
    t.cnt = s.cnt ∧ t.roc = s.roc ∧ t.wf = s.wf ∧ t.tick = s.tick ∧ t.warm = s.warm ∧ t.valid = s.valid ∧
    t.wtog = s.wtog ∧ (i.opName ≠ .cyclePsc → t.pres = s.pres ∧ t.pscIdx = s.pscIdx) ∧
    (i.opName ≠ .toggleHold → t.hold = s.hold) ∧ (i.opName ≠ .cycleFilt → t.filtIdx = s.filtIdx) ∧
    (i.opName ≠ .cycleCal → t.calIdx = s.calIdx)

/-- 42_control.md R127: as many cycles as the table is long restore the selector and everything else, but PRES of the prescaler's. -/
def Obligations.CyclingLaw : Prop :=
  ∀ (s : State) (lower : Bool), s.Inv →
    execTimes s.cfg.filtLen (.cycleFilt lower) s = .next { s with echo := false } ∧
    execTimes s.cfg.calLen (.cycleCal lower) s = .next { s with echo := false } ∧
    execTimes s.cfg.pscExp.length (.cyclePsc lower) s = .next { s with pres := 0, echo := false }

/-- 10_state.md R17, R19: FILT_IDX and CAL_IDX have no effect on any other register: two states that differ in them alone step to states that differ in them alone. -/
def Obligations.FilterAndCalibrationReachNoOtherRegister : Prop :=
  ∀ (s t u : State) (filt cal : Nat), step s = .next t →
    step { s with filtIdx := filt, calIdx := cal } = .next u →
    u = { t with filtIdx := u.filtIdx, calIdx := u.calIdx }

/-! ### The snapshot family and the outputs -/

/-- 43_snapshot.md R143: IDLE changes no register; `echo` is 0. -/
def Obligations.IdleChangesNoRegister : Prop :=
  ∀ s : State, s.cfg.valid = true → exec .idle s = .next { s with echo := false }

/-- 43_snapshot.md R143, 30_encoding.md R61: a word with bits 11 to 8 clear, whatever its other bits, leaves every register. -/
def Obligations.CycleWithoutStrobeChangesNoRegister : Prop :=
  ∀ (s : State) (w : StimWord) (ws : List StimWord), s.cfg.valid = true → s.input = w :: ws →
    w &&& 0xF00#12 = 0x000#12 →
    step s = .next { s with echo := false, input := ws, cycle := s.cycle + 1 }

/-- 43_snapshot.md R140: the values of the output ports, the exponent through the shared table. -/
def Obligations.OutputsShowTheRegisters : Prop :=
  ∀ (s : State) (e : Nat), s.cfg.pscExp[s.pscIdx]? = some e →
    out s = { wf := s.wf, valid := s.valid, wtog := s.wtog, hold := s.hold, filtIdx := s.filtIdx,
              pscIdx := s.pscIdx, pscExp := e, calIdx := s.calIdx, echo := s.echo }

/-- 20_memory.md R42, 42_control.md R125: `echo` is 1 exactly after a cycle in which ECHO was performed. -/
def Obligations.EchoPulsesAfterANewlineCycleOnly : Prop :=
  ∀ (s t : State) (w : StimWord) (ws : List StimWord), s.input = w :: ws → step s = .next t →
    ((out t).echo = true ↔
      w.getLsbD 11 = false ∧ w.getLsbD 8 = true ∧
      (w.extractLsb' 0 8 = 0x0A#8 ∨ w.extractLsb' 0 8 = 0x0D#8))

/-- 10_state.md R21, 43_snapshot.md R142: VALID rises only in a step that, at a warm boundary with hold clear, writes WF with the closing window's scaled count. -/
def Obligations.ValidRisesOnlyWithAWarmCapture : Prop :=
  ∀ (s t : State) (e : Nat), s.Inv → s.cfg.pscExp[s.pscIdx]? = some e → step s = .next t → s.valid = false →
    t.valid = true →
    s.nextWord.getLsbD 11 = false ∧ s.nextWord.getLsbD 9 = true ∧ s.tick + 1 = s.cfg.windowTicks ∧
    s.warm = true ∧ s.hold = false ∧
    t.wf = ((s.roc + s.cnt + (if s.nextWord.getLsbD 10 = true ∧ s.pres + 1 = 2 ^ e then 1 else 0)) * 2 ^ e) %
      2 ^ s.cfg.wfWidth

/-- 10_state.md R30: after the first FINALIZE and while VALID stays 0, WF keeps the value it has (the warm-up sample, or the reset value). -/
def Obligations.WarmUpSampleStaysWhileInvalid : Prop :=
  ∀ s t : State, s.tick < s.cfg.windowTicks → step s = .next t → s.nextWord.getLsbD 11 = false →
    s.warm = true → t.valid = false → t.wf = s.wf

/-- 43_snapshot.md R142: from a fresh state, no reader that keeps its duty (R141) surfaces anything before the second boundary, whatever is presented but a reset; with hold off throughout, `valid` rises exactly there. What is surfaced from the second boundary on when hold was on: SurfacedValueIsALaterWindowsCount. -/
def Obligations.NothingIsSurfacedBeforeTheSecondBoundary : Prop :=
  ∀ (ws : List StimWord) (s : State), s.cfg.valid = true → s.tick = 0 → s.warm = false → s.valid = false →
    (∀ w ∈ ws, w.getLsbD 11 = false) →
    ∃ t, runWords ws s = .next t ∧
      (tickCount ws < 2 * s.cfg.windowTicks → surfaced (out t) = none) ∧
      (s.hold = false → (∀ w ∈ ws, commands w .toggleHold = false) →
        2 * s.cfg.windowTicks ≤ tickCount ws → surfaced (out t) = some t.wf)

/-! ### The cycle: decoding and ordering -/

/-- 30_encoding.md R61: a step performs RESET alone, else EVT, then TICK, then the command, each if its strobe is set. -/
def Obligations.StepPerformsEvtThenTickThenCommand : Prop :=
  ∀ (s : State) (w : StimWord) (ws : List StimWord), s.cfg.valid = true → s.input = w :: ws →
    step s =
      (if w.getLsbD 11 then exec .reset { s with echo := false, input := ws, cycle := s.cycle + 1 }
       else
        andThen
          (andThen
            (if w.getLsbD 10 then exec .evt { s with echo := false, input := ws, cycle := s.cycle + 1 }
             else .next { s with echo := false, input := ws, cycle := s.cycle + 1 })
            (fun a => if w.getLsbD 9 then exec .tick a else .next a))
          (fun b => if w.getLsbD 8 then exec (decodeCommand (w.extractLsb' 0 8)) b else .next b))

/-- A step runs the decoded operations: in order when the word stands for several (30_encoding.md R61), and exec itself when it stands for one; around them it takes the word and clears `echo`. -/
def Obligations.StepRunsTheDecodedOperations : Prop :=
  ∀ (s : State) (w : StimWord) (ws : List StimWord), s.input = w :: ws →
    step s = execAll (decodeCycle w) { s with echo := false, input := ws, cycle := s.cycle + 1 } ∧
    ∀ i : Instr, s.cfg.valid = true → decodeCycle w = [i] →
      step s = exec i { s with echo := false, input := ws, cycle := s.cycle + 1 }

/-- A word presented from outside is the very next one: the model's way of loading (log entry 5), for a word that stands for one operation. -/
def Obligations.PresentedWordRunsNext : Prop :=
  ∀ (s : State) (i : Instr) (w nbits : Nat), s.cfg.valid = true → w < 2 ^ nbits →
    decodeBits w = .ok [i] →
    decodeTableWord nbits w = some i ∧
    step (s.withFetchWord nbits w) = exec i { s with echo := false, cycle := s.cycle + 1 }

/-- Past the listed words the environment presents some word, and nothing says which (log entry 4; the value is free). -/
def Obligations.UnlistedStimulusIsSomeWord : Prop :=
  ∀ s : State, s.input = [] → ∃ w : StimWord, step s = step (s.withInput [w])

/-- 30_encoding.md R66: with `cv` = 0 no bit of `cb` reaches any state. -/
def Obligations.ByteWithoutCommandStrobeIsIgnored : Prop :=
  ∀ (s : State) (w w' : StimWord) (ws : List StimWord), w.getLsbD 8 = false →
    w &&& 0xF00#12 = w' &&& 0xF00#12 → step (s.withInput (w :: ws)) = step (s.withInput (w' :: ws))

/-- 30_encoding.md R67 (its derived remark): EVT and a TICK that is no boundary commute. -/
def Obligations.EvtAndInnerTickCommute : Prop :=
  ∀ s : State, s.tick + 1 < s.cfg.windowTicks →
    andThen (exec .evt s) (exec .tick) = andThen (exec .tick s) (exec .evt)

/-- 30_encoding.md R64: the column "bytes" of the command map, for all 256 bytes. -/
def Obligations.CommandMapOfAllBytes : Prop :=
  ∀ b : Byte,
    ((decodeCommand b).opName = .cycleCal ↔ b = 0x4F#8 ∨ b = 0x6F#8) ∧
    ((decodeCommand b).opName = .toggleHold ↔ b = 0x48#8 ∨ b = 0x68#8) ∧
    ((decodeCommand b).opName = .cycleFilt ↔ b = 0x46#8 ∨ b = 0x66#8) ∧
    ((decodeCommand b).opName = .cyclePsc ↔ b = 0x50#8 ∨ b = 0x70#8) ∧
    ((decodeCommand b).opName = .echoLf ↔ b = 0x0A#8) ∧ ((decodeCommand b).opName = .echoCr ↔ b = 0x0D#8) ∧
    ((decodeCommand b).opName = .cmdNop ↔
      b ∉ [0x4F#8, 0x6F#8, 0x48#8, 0x68#8, 0x46#8, 0x66#8, 0x50#8, 0x70#8, 0x0A#8, 0x0D#8])

/-- spec/opcode_table.json: for every word and every row with a match and a mask, the row's operation is decoded exactly when the row matches; CMD_NOP when it alone of the command rows does. -/
def Obligations.DecoderAgreesWithTheOpcodeTable : Prop :=
  ∀ w : StimWord,
    (∀ r ∈ strobeRows ++ commandRows,
      (w &&& r.mask = r.pattern ↔ r.op ∈ (decodeCycle w).map Instr.opName)) ∧
    (OpName.cmdNop ∈ (decodeCycle w).map Instr.opName ↔
      w &&& 0x900#12 = 0x100#12 ∧ ∀ r ∈ commandRows, w &&& r.mask ≠ r.pattern)

/-- 30_encoding.md section 4, its check: how many of the 4096 words are RESET or IDLE, and how many contain each other operation, a command at all, or a micro-operation (none). -/
def Obligations.WordCountsOfTheOperations : Prop :=
  let cycles := (List.range 4096).map fun n => decodeCycle (BitVec.ofNat 12 n)
  let words := cycles.map fun c => c.map Instr.opName
  words.countP (· == [.reset]) = 2048 ∧ words.countP (· == [.idle]) = 256 ∧
  words.countP (·.contains .evt) = 1024 ∧ words.countP (·.contains .tick) = 1024 ∧
  cycles.countP (·.any Instr.isCommand) = 1024 ∧
  words.countP (·.contains .cycleCal) = 8 ∧ words.countP (·.contains .toggleHold) = 8 ∧
  words.countP (·.contains .cycleFilt) = 8 ∧ words.countP (·.contains .cyclePsc) = 8 ∧
  words.countP (·.contains .echoLf) = 4 ∧ words.countP (·.contains .echoCr) = 4 ∧
  words.countP (·.contains .cmdNop) = 984 ∧
  cycles.countP (·.any Instr.isMicro) = 0

/-- A few words written out from 30_encoding.md R60, R64 and R67. -/
def Obligations.WrittenOutWordsDecode : Prop :=
  decodeCycle 0b100000000000#12 = [.reset] ∧ decodeCycle 0b010000000000#12 = [.evt] ∧
  decodeCycle 0b001000000000#12 = [.tick] ∧ decodeCycle 0b000101101000#12 = [.toggleHold true] ∧
  decodeCycle 0b011101101000#12 = [.evt, .tick, .toggleHold true] ∧ decodeCycle 0b000000000000#12 = [.idle]

/-- Every well-formed operation's word decodes to that operation alone with its operand; exactly the micro-operations have no word (30_encoding.md section 4). -/
def Obligations.EncodedOperationDecodesToItself : Prop :=
  ∀ (c : Config) (i : Instr), wellFormed c i = true →
    (i.isMicro = true ↔ encode i = none) ∧ ∀ w, encode i = some w → decodeCycle w = [i]

/-- Every well-formed cycle has a word, and that word decodes to the cycle (30_encoding.md R61). -/
def Obligations.EncodedCycleDecodesToItself : Prop :=
  ∀ (c : Config) (is : List Instr), wellFormedCycle c is = true →
    ∃ w, encodeCycle is = some w ∧ decodeCycle w = is

/-- 30_encoding.md R65, R66: every one of the 4096 words stands for a well-formed cycle in every configuration, whose word is the same but for ignored bits. -/
def Obligations.EveryWordStandsForOneCycle : Prop :=
  ∀ (c : Config) (w : StimWord),
    wellFormedCycle c (decodeCycle w) = true ∧
    encodeCycle (decodeCycle w) =
      some (if w.getLsbD 11 then 0x800#12 else if w.getLsbD 8 then w else w &&& 0xF00#12)

/-! ### Invariants -/

/-- The invariants hold at reset (10_state.md section 8: "Each holds after RESET"). -/
def Obligations.ResetStateMeetsTheInvariants : Prop :=
  State.reset.Inv ∧ ∀ s t : State, exec .reset s = .next t → t.Inv

/-- Every operation, the micro-operations too, keeps the invariants (10_state.md section 8: "is kept by every operation"). -/
def Obligations.EveryOperationKeepsTheInvariants : Prop :=
  ∀ (i : Instr) (s t : State), s.Inv → exec i s = .next t → t.Inv

/-- Every step keeps the invariants, whatever word the environment presents. -/
def Obligations.EveryStepKeepsTheInvariants : Prop :=
  ∀ s t : State, s.Inv → step s = .next t → t.Inv

/-- 43_snapshot.md R142, with R141: whatever is presented, resets and hold included, a value surfaced is the scaled count that a boundary wrote with hold off and a FINALIZE before it since the last reset. So the first finalized value is never surfaced, also when hold was on at the second boundary. -/
def Obligations.SurfacedValueIsALaterWindowsCount : Prop :=
  ∀ (ws : List StimWord) (s t : State) (v : Nat), s.Inv → s.valid = false → runWords ws s = .next t →
    surfaced (out t) = some v →
    ∃ (before after : List StimWord) (w : StimWord) (m n : State) (e : Nat),
      ws = before ++ w :: after ∧ runWords before s = .next m ∧ runWords (before ++ [w]) s = .next n ∧
      w.getLsbD 11 = false ∧ w.getLsbD 9 = true ∧ m.tick + 1 = m.cfg.windowTicks ∧
      m.warm = true ∧ m.hold = false ∧ (∀ x ∈ after, x.getLsbD 11 = false) ∧
      m.cfg.pscExp[m.pscIdx]? = some e ∧ n.valid = true ∧ n.wf = v ∧
      v = ((m.roc + m.cnt + (if w.getLsbD 10 = true ∧ m.pres + 1 = 2 ^ e then 1 else 0)) * 2 ^ e) %
        2 ^ m.cfg.wfWidth
end

