-- ==== Sys2Proof/Laws/Decode.lean ====
section
/-! SUPPORT. The decoder and the encoder: the command map both ways, and the fields of an encoded word. -/

namespace Sys2Proof

/-- A command byte decodes to a command operation. -/
theorem decodeCommand_isCommand : ∀ b : Byte, (decodeCommand b).isCommand = true := by decide

/-- A byte has one operation, and its operation has that byte alone (30_encoding.md R64). -/
theorem encodeCommand_decodeCommand : ∀ b : Byte, encodeCommand (decodeCommand b) = some b := by decide

/-- CMD_NOP's byte decodes back to it when no other row takes it (42_control.md R126). -/
theorem decodeCommand_of_no_action : ∀ b : Byte, b ∉ actionBytes → decodeCommand b = .cmdNop b := by decide

theorem decodeCommand_letterByte (lower : Bool) :
    decodeCommand (letterByte 0x4F#8 lower) = .cycleCal lower ∧
    decodeCommand (letterByte 0x48#8 lower) = .toggleHold lower ∧
    decodeCommand (letterByte 0x46#8 lower) = .cycleFilt lower ∧
    decodeCommand (letterByte 0x50#8 lower) = .cyclePsc lower := by
  cases lower <;> decide

/-- The fields of a command word (30_encoding.md R60). -/
theorem fields_commandWord : ∀ b : Byte,
    Stim.rst (commandWord b) = false ∧ Stim.evt (commandWord b) = false ∧ Stim.tick (commandWord b) = false ∧
    Stim.cv (commandWord b) = true ∧ Stim.cb (commandWord b) = b := by decide

/-- A command word stands for its byte's operation alone. -/
theorem decodeCycle_commandWord (b : Byte) : decodeCycle (commandWord b) = [decodeCommand b] := by
  obtain ⟨hr, he, ht, hc, hb⟩ := fields_commandWord b
  simp [decodeCycle, hr, he, ht, hc, hb]

/-- A cycle always has an operation (30_encoding.md R61). -/
theorem decodeCycle_ne_nil (w : StimWord) : decodeCycle w ≠ [] := by
  unfold decodeCycle
  cases Stim.rst w <;> cases Stim.evt w <;> cases Stim.tick w <;> cases Stim.cv w <;> simp

end Sys2Proof
end

