-- ==== Sys2Proof/Laws/State.lean ====
section
/-! SUPPORT. What each write of State leaves in each field: one lemma per field per update. -/

namespace Sys2Proof.Machine.State

variable (s : State) (v : Nat) (b : Bool) (w : StimWord)

@[simp] theorem setCnt_cfg : (s.setCnt v).cfg = s.cfg := rfl
@[simp] theorem setCnt_cnt : (s.setCnt v).cnt = v % s.cfg.range := rfl
@[simp] theorem setCnt_roc : (s.setCnt v).roc = s.roc := rfl
@[simp] theorem setCnt_wf : (s.setCnt v).wf = s.wf := rfl
@[simp] theorem setCnt_tick : (s.setCnt v).tick = s.tick := rfl
@[simp] theorem setCnt_pres : (s.setCnt v).pres = s.pres := rfl
@[simp] theorem setCnt_hold : (s.setCnt v).hold = s.hold := rfl
@[simp] theorem setCnt_filtIdx : (s.setCnt v).filtIdx = s.filtIdx := rfl
@[simp] theorem setCnt_pscIdx : (s.setCnt v).pscIdx = s.pscIdx := rfl
@[simp] theorem setCnt_calIdx : (s.setCnt v).calIdx = s.calIdx := rfl
@[simp] theorem setCnt_warm : (s.setCnt v).warm = s.warm := rfl
@[simp] theorem setCnt_valid : (s.setCnt v).valid = s.valid := rfl
@[simp] theorem setCnt_wtog : (s.setCnt v).wtog = s.wtog := rfl
@[simp] theorem setCnt_echo : (s.setCnt v).echo = s.echo := rfl
@[simp] theorem setCnt_input : (s.setCnt v).input = s.input := rfl
@[simp] theorem setCnt_cycle : (s.setCnt v).cycle = s.cycle := rfl

@[simp] theorem setRoc_cfg : (s.setRoc v).cfg = s.cfg := rfl
@[simp] theorem setRoc_cnt : (s.setRoc v).cnt = s.cnt := rfl
@[simp] theorem setRoc_roc : (s.setRoc v).roc = v % 2 ^ s.cfg.rocWidth := rfl
@[simp] theorem setRoc_wf : (s.setRoc v).wf = s.wf := rfl
@[simp] theorem setRoc_tick : (s.setRoc v).tick = s.tick := rfl
@[simp] theorem setRoc_pres : (s.setRoc v).pres = s.pres := rfl
@[simp] theorem setRoc_hold : (s.setRoc v).hold = s.hold := rfl
@[simp] theorem setRoc_filtIdx : (s.setRoc v).filtIdx = s.filtIdx := rfl
@[simp] theorem setRoc_pscIdx : (s.setRoc v).pscIdx = s.pscIdx := rfl
@[simp] theorem setRoc_calIdx : (s.setRoc v).calIdx = s.calIdx := rfl
@[simp] theorem setRoc_warm : (s.setRoc v).warm = s.warm := rfl
@[simp] theorem setRoc_valid : (s.setRoc v).valid = s.valid := rfl
@[simp] theorem setRoc_wtog : (s.setRoc v).wtog = s.wtog := rfl
@[simp] theorem setRoc_echo : (s.setRoc v).echo = s.echo := rfl
@[simp] theorem setRoc_input : (s.setRoc v).input = s.input := rfl
@[simp] theorem setRoc_cycle : (s.setRoc v).cycle = s.cycle := rfl

@[simp] theorem setWf_cfg : (s.setWf v).cfg = s.cfg := rfl
@[simp] theorem setWf_cnt : (s.setWf v).cnt = s.cnt := rfl
@[simp] theorem setWf_roc : (s.setWf v).roc = s.roc := rfl
@[simp] theorem setWf_wf : (s.setWf v).wf = v % 2 ^ s.cfg.wfWidth := rfl
@[simp] theorem setWf_tick : (s.setWf v).tick = s.tick := rfl
@[simp] theorem setWf_pres : (s.setWf v).pres = s.pres := rfl
@[simp] theorem setWf_hold : (s.setWf v).hold = s.hold := rfl
@[simp] theorem setWf_filtIdx : (s.setWf v).filtIdx = s.filtIdx := rfl
@[simp] theorem setWf_pscIdx : (s.setWf v).pscIdx = s.pscIdx := rfl
@[simp] theorem setWf_calIdx : (s.setWf v).calIdx = s.calIdx := rfl
@[simp] theorem setWf_warm : (s.setWf v).warm = s.warm := rfl
@[simp] theorem setWf_valid : (s.setWf v).valid = s.valid := rfl
@[simp] theorem setWf_wtog : (s.setWf v).wtog = s.wtog := rfl
@[simp] theorem setWf_echo : (s.setWf v).echo = s.echo := rfl
@[simp] theorem setWf_input : (s.setWf v).input = s.input := rfl
@[simp] theorem setWf_cycle : (s.setWf v).cycle = s.cycle := rfl

@[simp] theorem setTick_cfg : (s.setTick v).cfg = s.cfg := rfl
@[simp] theorem setTick_cnt : (s.setTick v).cnt = s.cnt := rfl
@[simp] theorem setTick_roc : (s.setTick v).roc = s.roc := rfl
@[simp] theorem setTick_wf : (s.setTick v).wf = s.wf := rfl
@[simp] theorem setTick_tick : (s.setTick v).tick = v % 2 ^ s.cfg.tickWidth := rfl
@[simp] theorem setTick_pres : (s.setTick v).pres = s.pres := rfl
@[simp] theorem setTick_hold : (s.setTick v).hold = s.hold := rfl
@[simp] theorem setTick_filtIdx : (s.setTick v).filtIdx = s.filtIdx := rfl
@[simp] theorem setTick_pscIdx : (s.setTick v).pscIdx = s.pscIdx := rfl
@[simp] theorem setTick_calIdx : (s.setTick v).calIdx = s.calIdx := rfl
@[simp] theorem setTick_warm : (s.setTick v).warm = s.warm := rfl
@[simp] theorem setTick_valid : (s.setTick v).valid = s.valid := rfl
@[simp] theorem setTick_wtog : (s.setTick v).wtog = s.wtog := rfl
@[simp] theorem setTick_echo : (s.setTick v).echo = s.echo := rfl
@[simp] theorem setTick_input : (s.setTick v).input = s.input := rfl
@[simp] theorem setTick_cycle : (s.setTick v).cycle = s.cycle := rfl

@[simp] theorem setPres_cfg : (s.setPres v).cfg = s.cfg := rfl
@[simp] theorem setPres_cnt : (s.setPres v).cnt = s.cnt := rfl
@[simp] theorem setPres_roc : (s.setPres v).roc = s.roc := rfl
@[simp] theorem setPres_wf : (s.setPres v).wf = s.wf := rfl
@[simp] theorem setPres_tick : (s.setPres v).tick = s.tick := rfl
@[simp] theorem setPres_pres : (s.setPres v).pres = v % 2 ^ s.cfg.presWidth := rfl
@[simp] theorem setPres_hold : (s.setPres v).hold = s.hold := rfl
@[simp] theorem setPres_filtIdx : (s.setPres v).filtIdx = s.filtIdx := rfl
@[simp] theorem setPres_pscIdx : (s.setPres v).pscIdx = s.pscIdx := rfl
@[simp] theorem setPres_calIdx : (s.setPres v).calIdx = s.calIdx := rfl
@[simp] theorem setPres_warm : (s.setPres v).warm = s.warm := rfl
@[simp] theorem setPres_valid : (s.setPres v).valid = s.valid := rfl
@[simp] theorem setPres_wtog : (s.setPres v).wtog = s.wtog := rfl
@[simp] theorem setPres_echo : (s.setPres v).echo = s.echo := rfl
@[simp] theorem setPres_input : (s.setPres v).input = s.input := rfl
@[simp] theorem setPres_cycle : (s.setPres v).cycle = s.cycle := rfl

@[simp] theorem setHold_cfg : (s.setHold b).cfg = s.cfg := rfl
@[simp] theorem setHold_cnt : (s.setHold b).cnt = s.cnt := rfl
@[simp] theorem setHold_roc : (s.setHold b).roc = s.roc := rfl
@[simp] theorem setHold_wf : (s.setHold b).wf = s.wf := rfl
@[simp] theorem setHold_tick : (s.setHold b).tick = s.tick := rfl
@[simp] theorem setHold_pres : (s.setHold b).pres = s.pres := rfl
@[simp] theorem setHold_hold : (s.setHold b).hold = b := rfl
@[simp] theorem setHold_filtIdx : (s.setHold b).filtIdx = s.filtIdx := rfl
@[simp] theorem setHold_pscIdx : (s.setHold b).pscIdx = s.pscIdx := rfl
@[simp] theorem setHold_calIdx : (s.setHold b).calIdx = s.calIdx := rfl
@[simp] theorem setHold_warm : (s.setHold b).warm = s.warm := rfl
@[simp] theorem setHold_valid : (s.setHold b).valid = s.valid := rfl
@[simp] theorem setHold_wtog : (s.setHold b).wtog = s.wtog := rfl
@[simp] theorem setHold_echo : (s.setHold b).echo = s.echo := rfl
@[simp] theorem setHold_input : (s.setHold b).input = s.input := rfl
@[simp] theorem setHold_cycle : (s.setHold b).cycle = s.cycle := rfl

@[simp] theorem setFiltIdx_cfg : (s.setFiltIdx v).cfg = s.cfg := rfl
@[simp] theorem setFiltIdx_cnt : (s.setFiltIdx v).cnt = s.cnt := rfl
@[simp] theorem setFiltIdx_roc : (s.setFiltIdx v).roc = s.roc := rfl
@[simp] theorem setFiltIdx_wf : (s.setFiltIdx v).wf = s.wf := rfl
@[simp] theorem setFiltIdx_tick : (s.setFiltIdx v).tick = s.tick := rfl
@[simp] theorem setFiltIdx_pres : (s.setFiltIdx v).pres = s.pres := rfl
@[simp] theorem setFiltIdx_hold : (s.setFiltIdx v).hold = s.hold := rfl
@[simp] theorem setFiltIdx_filtIdx : (s.setFiltIdx v).filtIdx = v % s.cfg.filtLen := rfl
@[simp] theorem setFiltIdx_pscIdx : (s.setFiltIdx v).pscIdx = s.pscIdx := rfl
@[simp] theorem setFiltIdx_calIdx : (s.setFiltIdx v).calIdx = s.calIdx := rfl
@[simp] theorem setFiltIdx_warm : (s.setFiltIdx v).warm = s.warm := rfl
@[simp] theorem setFiltIdx_valid : (s.setFiltIdx v).valid = s.valid := rfl
@[simp] theorem setFiltIdx_wtog : (s.setFiltIdx v).wtog = s.wtog := rfl
@[simp] theorem setFiltIdx_echo : (s.setFiltIdx v).echo = s.echo := rfl
@[simp] theorem setFiltIdx_input : (s.setFiltIdx v).input = s.input := rfl
@[simp] theorem setFiltIdx_cycle : (s.setFiltIdx v).cycle = s.cycle := rfl

@[simp] theorem setPscIdx_cfg : (s.setPscIdx v).cfg = s.cfg := rfl
@[simp] theorem setPscIdx_cnt : (s.setPscIdx v).cnt = s.cnt := rfl
@[simp] theorem setPscIdx_roc : (s.setPscIdx v).roc = s.roc := rfl
@[simp] theorem setPscIdx_wf : (s.setPscIdx v).wf = s.wf := rfl
@[simp] theorem setPscIdx_tick : (s.setPscIdx v).tick = s.tick := rfl
@[simp] theorem setPscIdx_pres : (s.setPscIdx v).pres = s.pres := rfl
@[simp] theorem setPscIdx_hold : (s.setPscIdx v).hold = s.hold := rfl
@[simp] theorem setPscIdx_filtIdx : (s.setPscIdx v).filtIdx = s.filtIdx := rfl
@[simp] theorem setPscIdx_pscIdx : (s.setPscIdx v).pscIdx = v % s.cfg.pscLen := rfl
@[simp] theorem setPscIdx_calIdx : (s.setPscIdx v).calIdx = s.calIdx := rfl
@[simp] theorem setPscIdx_warm : (s.setPscIdx v).warm = s.warm := rfl
@[simp] theorem setPscIdx_valid : (s.setPscIdx v).valid = s.valid := rfl
@[simp] theorem setPscIdx_wtog : (s.setPscIdx v).wtog = s.wtog := rfl
@[simp] theorem setPscIdx_echo : (s.setPscIdx v).echo = s.echo := rfl
@[simp] theorem setPscIdx_input : (s.setPscIdx v).input = s.input := rfl
@[simp] theorem setPscIdx_cycle : (s.setPscIdx v).cycle = s.cycle := rfl

@[simp] theorem setCalIdx_cfg : (s.setCalIdx v).cfg = s.cfg := rfl
@[simp] theorem setCalIdx_cnt : (s.setCalIdx v).cnt = s.cnt := rfl
@[simp] theorem setCalIdx_roc : (s.setCalIdx v).roc = s.roc := rfl
@[simp] theorem setCalIdx_wf : (s.setCalIdx v).wf = s.wf := rfl
@[simp] theorem setCalIdx_tick : (s.setCalIdx v).tick = s.tick := rfl
@[simp] theorem setCalIdx_pres : (s.setCalIdx v).pres = s.pres := rfl
@[simp] theorem setCalIdx_hold : (s.setCalIdx v).hold = s.hold := rfl
@[simp] theorem setCalIdx_filtIdx : (s.setCalIdx v).filtIdx = s.filtIdx := rfl
@[simp] theorem setCalIdx_pscIdx : (s.setCalIdx v).pscIdx = s.pscIdx := rfl
@[simp] theorem setCalIdx_calIdx : (s.setCalIdx v).calIdx = v % s.cfg.calLen := rfl
@[simp] theorem setCalIdx_warm : (s.setCalIdx v).warm = s.warm := rfl
@[simp] theorem setCalIdx_valid : (s.setCalIdx v).valid = s.valid := rfl
@[simp] theorem setCalIdx_wtog : (s.setCalIdx v).wtog = s.wtog := rfl
@[simp] theorem setCalIdx_echo : (s.setCalIdx v).echo = s.echo := rfl
@[simp] theorem setCalIdx_input : (s.setCalIdx v).input = s.input := rfl
@[simp] theorem setCalIdx_cycle : (s.setCalIdx v).cycle = s.cycle := rfl

@[simp] theorem setWarm_cfg : (s.setWarm b).cfg = s.cfg := rfl
@[simp] theorem setWarm_cnt : (s.setWarm b).cnt = s.cnt := rfl
@[simp] theorem setWarm_roc : (s.setWarm b).roc = s.roc := rfl
@[simp] theorem setWarm_wf : (s.setWarm b).wf = s.wf := rfl
@[simp] theorem setWarm_tick : (s.setWarm b).tick = s.tick := rfl
@[simp] theorem setWarm_pres : (s.setWarm b).pres = s.pres := rfl
@[simp] theorem setWarm_hold : (s.setWarm b).hold = s.hold := rfl
@[simp] theorem setWarm_filtIdx : (s.setWarm b).filtIdx = s.filtIdx := rfl
@[simp] theorem setWarm_pscIdx : (s.setWarm b).pscIdx = s.pscIdx := rfl
@[simp] theorem setWarm_calIdx : (s.setWarm b).calIdx = s.calIdx := rfl
@[simp] theorem setWarm_warm : (s.setWarm b).warm = b := rfl
@[simp] theorem setWarm_valid : (s.setWarm b).valid = s.valid := rfl
@[simp] theorem setWarm_wtog : (s.setWarm b).wtog = s.wtog := rfl
@[simp] theorem setWarm_echo : (s.setWarm b).echo = s.echo := rfl
@[simp] theorem setWarm_input : (s.setWarm b).input = s.input := rfl
@[simp] theorem setWarm_cycle : (s.setWarm b).cycle = s.cycle := rfl

@[simp] theorem setValid_cfg : (s.setValid b).cfg = s.cfg := rfl
@[simp] theorem setValid_cnt : (s.setValid b).cnt = s.cnt := rfl
@[simp] theorem setValid_roc : (s.setValid b).roc = s.roc := rfl
@[simp] theorem setValid_wf : (s.setValid b).wf = s.wf := rfl
@[simp] theorem setValid_tick : (s.setValid b).tick = s.tick := rfl
@[simp] theorem setValid_pres : (s.setValid b).pres = s.pres := rfl
@[simp] theorem setValid_hold : (s.setValid b).hold = s.hold := rfl
@[simp] theorem setValid_filtIdx : (s.setValid b).filtIdx = s.filtIdx := rfl
@[simp] theorem setValid_pscIdx : (s.setValid b).pscIdx = s.pscIdx := rfl
@[simp] theorem setValid_calIdx : (s.setValid b).calIdx = s.calIdx := rfl
@[simp] theorem setValid_warm : (s.setValid b).warm = s.warm := rfl
@[simp] theorem setValid_valid : (s.setValid b).valid = b := rfl
@[simp] theorem setValid_wtog : (s.setValid b).wtog = s.wtog := rfl
@[simp] theorem setValid_echo : (s.setValid b).echo = s.echo := rfl
@[simp] theorem setValid_input : (s.setValid b).input = s.input := rfl
@[simp] theorem setValid_cycle : (s.setValid b).cycle = s.cycle := rfl

@[simp] theorem setWtog_cfg : (s.setWtog b).cfg = s.cfg := rfl
@[simp] theorem setWtog_cnt : (s.setWtog b).cnt = s.cnt := rfl
@[simp] theorem setWtog_roc : (s.setWtog b).roc = s.roc := rfl
@[simp] theorem setWtog_wf : (s.setWtog b).wf = s.wf := rfl
@[simp] theorem setWtog_tick : (s.setWtog b).tick = s.tick := rfl
@[simp] theorem setWtog_pres : (s.setWtog b).pres = s.pres := rfl
@[simp] theorem setWtog_hold : (s.setWtog b).hold = s.hold := rfl
@[simp] theorem setWtog_filtIdx : (s.setWtog b).filtIdx = s.filtIdx := rfl
@[simp] theorem setWtog_pscIdx : (s.setWtog b).pscIdx = s.pscIdx := rfl
@[simp] theorem setWtog_calIdx : (s.setWtog b).calIdx = s.calIdx := rfl
@[simp] theorem setWtog_warm : (s.setWtog b).warm = s.warm := rfl
@[simp] theorem setWtog_valid : (s.setWtog b).valid = s.valid := rfl
@[simp] theorem setWtog_wtog : (s.setWtog b).wtog = b := rfl
@[simp] theorem setWtog_echo : (s.setWtog b).echo = s.echo := rfl
@[simp] theorem setWtog_input : (s.setWtog b).input = s.input := rfl
@[simp] theorem setWtog_cycle : (s.setWtog b).cycle = s.cycle := rfl

@[simp] theorem setEcho_cfg : (s.setEcho b).cfg = s.cfg := rfl
@[simp] theorem setEcho_cnt : (s.setEcho b).cnt = s.cnt := rfl
@[simp] theorem setEcho_roc : (s.setEcho b).roc = s.roc := rfl
@[simp] theorem setEcho_wf : (s.setEcho b).wf = s.wf := rfl
@[simp] theorem setEcho_tick : (s.setEcho b).tick = s.tick := rfl
@[simp] theorem setEcho_pres : (s.setEcho b).pres = s.pres := rfl
@[simp] theorem setEcho_hold : (s.setEcho b).hold = s.hold := rfl
@[simp] theorem setEcho_filtIdx : (s.setEcho b).filtIdx = s.filtIdx := rfl
@[simp] theorem setEcho_pscIdx : (s.setEcho b).pscIdx = s.pscIdx := rfl
@[simp] theorem setEcho_calIdx : (s.setEcho b).calIdx = s.calIdx := rfl
@[simp] theorem setEcho_warm : (s.setEcho b).warm = s.warm := rfl
@[simp] theorem setEcho_valid : (s.setEcho b).valid = s.valid := rfl
@[simp] theorem setEcho_wtog : (s.setEcho b).wtog = s.wtog := rfl
@[simp] theorem setEcho_echo : (s.setEcho b).echo = b := rfl
@[simp] theorem setEcho_input : (s.setEcho b).input = s.input := rfl
@[simp] theorem setEcho_cycle : (s.setEcho b).cycle = s.cycle := rfl

@[simp] theorem beginCycle_cfg : (s.beginCycle).cfg = s.cfg := rfl
@[simp] theorem beginCycle_cnt : (s.beginCycle).cnt = s.cnt := rfl
@[simp] theorem beginCycle_roc : (s.beginCycle).roc = s.roc := rfl
@[simp] theorem beginCycle_wf : (s.beginCycle).wf = s.wf := rfl
@[simp] theorem beginCycle_tick : (s.beginCycle).tick = s.tick := rfl
@[simp] theorem beginCycle_pres : (s.beginCycle).pres = s.pres := rfl
@[simp] theorem beginCycle_hold : (s.beginCycle).hold = s.hold := rfl
@[simp] theorem beginCycle_filtIdx : (s.beginCycle).filtIdx = s.filtIdx := rfl
@[simp] theorem beginCycle_pscIdx : (s.beginCycle).pscIdx = s.pscIdx := rfl
@[simp] theorem beginCycle_calIdx : (s.beginCycle).calIdx = s.calIdx := rfl
@[simp] theorem beginCycle_warm : (s.beginCycle).warm = s.warm := rfl
@[simp] theorem beginCycle_valid : (s.beginCycle).valid = s.valid := rfl
@[simp] theorem beginCycle_wtog : (s.beginCycle).wtog = s.wtog := rfl
@[simp] theorem beginCycle_echo : (s.beginCycle).echo = false := rfl
@[simp] theorem beginCycle_input : (s.beginCycle).input = s.input.tail := rfl
@[simp] theorem beginCycle_cycle : (s.beginCycle).cycle = s.cycle + 1 := rfl

@[simp] theorem placeWord_cfg : (s.placeWord w).cfg = s.cfg := rfl
@[simp] theorem placeWord_cnt : (s.placeWord w).cnt = s.cnt := rfl
@[simp] theorem placeWord_roc : (s.placeWord w).roc = s.roc := rfl
@[simp] theorem placeWord_wf : (s.placeWord w).wf = s.wf := rfl
@[simp] theorem placeWord_tick : (s.placeWord w).tick = s.tick := rfl
@[simp] theorem placeWord_pres : (s.placeWord w).pres = s.pres := rfl
@[simp] theorem placeWord_hold : (s.placeWord w).hold = s.hold := rfl
@[simp] theorem placeWord_filtIdx : (s.placeWord w).filtIdx = s.filtIdx := rfl
@[simp] theorem placeWord_pscIdx : (s.placeWord w).pscIdx = s.pscIdx := rfl
@[simp] theorem placeWord_calIdx : (s.placeWord w).calIdx = s.calIdx := rfl
@[simp] theorem placeWord_warm : (s.placeWord w).warm = s.warm := rfl
@[simp] theorem placeWord_valid : (s.placeWord w).valid = s.valid := rfl
@[simp] theorem placeWord_wtog : (s.placeWord w).wtog = s.wtog := rfl
@[simp] theorem placeWord_echo : (s.placeWord w).echo = s.echo := rfl
@[simp] theorem placeWord_input : (s.placeWord w).input = w :: s.input := rfl
@[simp] theorem placeWord_cycle : (s.placeWord w).cycle = s.cycle := rfl

end Sys2Proof.Machine.State
end

