-- ==== Sys2Proof/Laws/Ops.lean ====
section
/-! SUPPORT. The shared operations: what a performed operation answers, what a table read gives, and what a legal configuration gives. -/

namespace Sys2Proof

namespace Config

variable {c : Config}

/-- The constraints of 00_scope.md R4, one by one. -/
theorem valid_iff : c.valid = true ↔
    1 ≤ c.cntWidth ∧ c.cntWidth < c.rocWidth ∧ c.rocWidth = c.wfWidth ∧ 1 ≤ c.windowTicks ∧
    c.windowTicks < 2 ^ c.tickWidth ∧ 1 ≤ c.filtLen ∧ 1 ≤ c.calLen ∧ c.pscExp[0]? = some 0 ∧
    ∀ e ∈ c.pscExp, e ≤ c.presWidth ∧ e < c.wfWidth := by
  simp [valid, and_assoc]

theorem range_pos (c : Config) : 0 < c.range := Nat.two_pow_pos _

theorem maxv_add_one (c : Config) : c.maxv + 1 = c.range := Nat.sub_add_cancel c.range_pos

theorem maxv_lt_range (c : Config) : c.maxv < c.range := by
  have := c.maxv_add_one
  omega

/-- RANGE divides 2^ROC_WIDTH (10_state.md R26). -/
theorem range_dvd (h : c.valid = true) : c.range ∣ 2 ^ c.rocWidth :=
  Nat.pow_dvd_pow 2 (valid_iff.mp h).2.1.le

theorem roc_eq_wf (h : c.valid = true) : c.rocWidth = c.wfWidth := (valid_iff.mp h).2.2.1

theorem pscLen_pos (h : c.valid = true) : 0 < c.pscLen := by
  have h0 := (valid_iff.mp h).2.2.2.2.2.2.2.1
  rcases List.getElem?_eq_some_iff.mp h0 with ⟨hl, -⟩
  exact hl

/-- A legal index of a selector fits the register's width (10_state.md R10). -/
theorem lt_two_pow_indexWidth {i len : Nat} (h : i < len) : i < 2 ^ indexWidth len := by
  have h1 : len ≤ 2 ^ Nat.clog 2 len := Nat.le_pow_clog (by norm_num) _
  have h2 : 2 ^ Nat.clog 2 len ≤ 2 ^ indexWidth len := Nat.pow_le_pow_right (by norm_num) (le_max_right _ _)
  omega

end Config

namespace Machine

variable {s t : State} {op : State → State}

/-- A performed operation answers its next state exactly in a legal configuration. -/
@[simp] theorem perform_next_iff : perform op s = .next t ↔ s.cfg.valid = true ∧ op s = t := by
  unfold perform
  split <;> simp_all

@[simp] theorem perform_of_valid (h : s.cfg.valid = true) : perform op s = .next (op s) := by
  simp [h]

theorem perform_of_invalid (h : s.cfg.valid = false) : perform op s = .refused .parametersBreakR4 := by
  simp [perform, h]

@[simp] theorem andThen_next (f : State → Host.Outcome State Fault Refusal) : andThen (.next s) f = f s := rfl

@[simp] theorem andThen_refused (r : Refusal) (f : State → Host.Outcome State Fault Refusal) :
    andThen (.refused r) f = .refused r := rfl

/-- A sequence answers a next state exactly when both parts do. -/
theorem andThen_next_iff {o : Host.Outcome State Fault Refusal} {f : State → Host.Outcome State Fault Refusal} :
    andThen o f = .next t ↔ ∃ m, o = .next m ∧ f m = .next t := by
  cases o <;> simp [andThen]

theorem tableRead_of_getElem? {l : List Nat} {i e : Nat} (h : l[i]? = some e) : tableRead l i = e := by
  simp [tableRead, h]

/-- Inside the table a read gives an entry of it (20_memory.md R43). -/
theorem tableRead_mem {l : List Nat} {i : Nat} (h : i < l.length) : tableRead l i ∈ l := by
  rw [tableRead_of_getElem? (List.getElem?_eq_getElem h)]
  exact List.getElem_mem h

theorem exponent_of_getElem? {e : Nat} (h : s.cfg.pscExp[s.pscIdx]? = some e) : exponent s = e :=
  tableRead_of_getElem? h

/-- The exponent depends on the parameters and PSC_IDX alone (41_window.md R110). -/
theorem exponent_congr (hc : t.cfg = s.cfg) (hp : t.pscIdx = s.pscIdx) : exponent t = exponent s := by
  simp [exponent, hc, hp]

/-- With PSC_IDX in its table the exponent obeys 00_scope.md R4. -/
theorem exponent_le (h : s.cfg.valid = true) (hi : s.pscIdx < s.cfg.pscLen) :
    exponent s ≤ s.cfg.presWidth ∧ exponent s < s.cfg.wfWidth :=
  (Config.valid_iff.mp h).2.2.2.2.2.2.2.2 _ (tableRead_mem hi)

/-- The exponent of entry 0, the setting after reset (10_state.md R18). -/
theorem exponent_of_pscIdx_zero (h : s.cfg.valid = true) (hi : s.pscIdx = 0) : exponent s = 0 :=
  exponent_of_getElem? (by rw [hi]; exact (Config.valid_iff.mp h).2.2.2.2.2.2.2.1)

/-- Scaling is multiplication by 2^e modulo 2^WF_WIDTH (41_window.md R102, R109). -/
theorem scaledCount_eq (h : s.cfg.valid = true) :
    scaledCount s = ((s.roc + s.cnt) * 2 ^ exponent s) % 2 ^ s.cfg.wfWidth := by
  rw [scaledCount, extendedCount, Nat.shiftLeft_eq, Config.roc_eq_wf h, Nat.mod_mul_mod]

end Machine

end Sys2Proof
end

