-- ==== Sys2Proof/Laws/Meanings.lean ====
section
/-! SUPPORT. What each operation can do, said once: its next state as an update of the fields it writes. -/

namespace Sys2Proof.Machine

variable (s : State)

/-- OVF writes ROC alone. -/
theorem doOvf_eq : doOvf s = { s with roc := (s.roc + s.cfg.range) % 2 ^ s.cfg.rocWidth } := rfl

/-- COUNT at MAXV: the wrap with its overflow. -/
theorem doCount_of_maxv (h : s.cnt = s.cfg.maxv) :
    doCount s = { s with cnt := 0, roc := (s.roc + s.cfg.range) % 2 ^ s.cfg.rocWidth } := by
  simp [doCount, h, doOvf, State.setCnt, State.setRoc]

/-- COUNT below MAXV. -/
theorem doCount_of_ne_maxv (h : s.cnt ≠ s.cfg.maxv) :
    doCount s = { s with cnt := (s.cnt + 1) % s.cfg.range } := by
  simp [doCount, h, State.setCnt]

/-- COUNT writes CNT and ROC alone. -/
theorem doCount_eq :
    doCount s =
      { s with
        cnt := if s.cnt = s.cfg.maxv then 0 else (s.cnt + 1) % s.cfg.range
        roc := if s.cnt = s.cfg.maxv then (s.roc + s.cfg.range) % 2 ^ s.cfg.rocWidth else s.roc } := by
  by_cases h : s.cnt = s.cfg.maxv
  · simp [doCount_of_maxv s h, h]
  · simp [doCount_of_ne_maxv s h, h]

/-- EVT that completes a group. -/
theorem doEvt_of_group_done (h : s.pres = 2 ^ exponent s - 1) : doEvt s = doCount { s with pres := 0 } := by
  simp [doEvt, h, State.setPres]

/-- EVT inside a group. -/
theorem doEvt_of_group_open (h : s.pres ≠ 2 ^ exponent s - 1) :
    doEvt s = { s with pres := (s.pres + 1) % 2 ^ s.cfg.presWidth } := by
  simp [doEvt, h, State.setPres]

/-- EVT writes PRES, CNT and ROC alone (40_counting.md R86). -/
theorem doEvt_eq :
    doEvt s =
      { s with
        pres := if s.pres = 2 ^ exponent s - 1 then 0 else (s.pres + 1) % 2 ^ s.cfg.presWidth
        cnt := if s.pres = 2 ^ exponent s - 1 then (doCount s).cnt else s.cnt
        roc := if s.pres = 2 ^ exponent s - 1 then (doCount s).roc else s.roc } := by
  by_cases h : s.pres = 2 ^ exponent s - 1
  · simp [doEvt_of_group_done s h, h, doCount_eq]
  · simp [doEvt_of_group_open s h, h]

/-- SETCNT writes CNT, and ROC when 0 is written over MAXV. -/
theorem doSetcnt_eq (v : Nat) :
    doSetcnt v s =
      { s with
        cnt := v % s.cfg.range
        roc := if s.cnt = s.cfg.maxv ∧ v = 0 then (s.roc + s.cfg.range) % 2 ^ s.cfg.rocWidth else s.roc } := by
  by_cases h : s.cnt = s.cfg.maxv ∧ v = 0
  · simp [doSetcnt, h, doOvf, State.setCnt, State.setRoc]
  · simp [doSetcnt, h, State.setCnt]

/-- FINALIZE, all its steps together (41_window.md R106). -/
theorem doFinalize_eq :
    doFinalize s =
      { s with
        wf := if s.hold then s.wf else scaledCount s
        valid := if s.hold then s.valid else validAfterCapture s
        cnt := 0, roc := 0, tick := 0, warm := true, wtog := !s.wtog } := by
  cases h : s.hold <;>
    simp [doFinalize, finalizeF1, finalizeF2a, finalizeF2b, finalizeF3, finalizeF4, doSetcnt_eq, h, State.setWf,
      State.setValid, State.setRoc, State.setWarm, State.setWtog, State.setTick, toggledWtog, scaledCount]

/-- TICK inside a window writes TICK alone. -/
theorem doTick_of_inside (h : s.tick + 1 < s.cfg.windowTicks) (hw : s.cfg.windowTicks < 2 ^ s.cfg.tickWidth) :
    doTick s = { s with tick := s.tick + 1 } := by
  have hm : (s.tick + 1) % 2 ^ s.cfg.tickWidth = s.tick + 1 := Nat.mod_eq_of_lt (by omega)
  have hne : s.tick + 1 ≠ s.cfg.windowTicks := by omega
  simp [doTick, State.setTick, hm, hne]

/-- The TICK that reaches WINDOW_TICKS is FINALIZE: TICK itself ends at 0 either way. -/
theorem doTick_of_boundary (h : s.tick + 1 = s.cfg.windowTicks) (hw : s.cfg.windowTicks < 2 ^ s.cfg.tickWidth) :
    doTick s = doFinalize s := by
  have hm : (s.tick + 1) % 2 ^ s.cfg.tickWidth = s.cfg.windowTicks := by
    rw [h]
    exact Nat.mod_eq_of_lt hw
  simp [doTick, State.setTick, hm, doFinalize_eq, scaledCount, extendedCount, exponent, validAfterCapture]

/-- TICK either only writes TICK, or is FINALIZE on a state that differs in TICK alone. -/
theorem doTick_cases :
    doTick s = s.setTick (s.tick + 1) ∨ doTick s = doFinalize (s.setTick (s.tick + 1)) := by
  unfold doTick
  dsimp only
  split
  · exact .inr rfl
  · exact .inl rfl

/-- The next state of an operation on its own. -/
def doOp : Instr → State → State
  | .reset => doReset
  | .idle => doIdle
  | .evt => doEvt
  | .tick => doTick
  | .cycleCal _ => withoutEcho doCycleCal
  | .toggleHold _ => withoutEcho doToggleHold
  | .cycleFilt _ => withoutEcho doCycleFilt
  | .cyclePsc _ => withoutEcho doCyclePsc
  | .echoLf => doEcho
  | .echoCr => doEcho
  | .cmdNop _ => withoutEcho doCmdNop
  | .count => doCount
  | .ovf => doOvf
  | .setcnt v => doSetcnt v
  | .finalize => doFinalize

/-- Every meaning is one performed operation. -/
theorem exec_eq_perform (i : Instr) : exec i s = perform (doOp i) s := by
  cases i <;> rfl

/-- No operation writes a parameter, an input word or the cycle counter. -/
theorem doOp_model_fields (i : Instr) :
    (doOp i s).cfg = s.cfg ∧ (doOp i s).input = s.input ∧ (doOp i s).cycle = s.cycle := by
  cases i with
  | evt => simp [doOp, doEvt_eq]
  | count => simp [doOp, doCount_eq]
  | tick => rcases doTick_cases s with h | h <;> simp [doOp, h, doFinalize_eq]
  | setcnt v => simp [doOp, doSetcnt_eq]
  | finalize => simp [doOp, doFinalize_eq]
  | _ =>
    simp [doOp, doReset, doIdle, doOvf, withoutEcho, doCycleCal, doToggleHold, doCycleFilt, doCyclePsc, doEcho,
      doCmdNop]

@[simp] theorem doOp_cfg (i : Instr) : (doOp i s).cfg = s.cfg := (doOp_model_fields s i).1

end Sys2Proof.Machine
end

