-- ==== Sys2Proof/Laws/Cycle.lean ====
section
/-! SUPPORT. What a cycle and a run can do, said once: the next state of a word as one function, and a run taken apart word by word. -/

namespace Sys2Proof.Machine

variable {s t : State}

/-- The next state of a list of operations. -/
def doAll : List Instr → State → State
  | [], s => s
  | i :: is, s => doAll is (doOp i s)

theorem doAll_append (is js : List Instr) (s : State) : doAll (is ++ js) s = doAll js (doAll is s) := by
  induction is generalizing s with
  | nil => rfl
  | cons i is ih => exact ih _

@[simp] theorem doAll_cfg (is : List Instr) (s : State) : (doAll is s).cfg = s.cfg := by
  induction is generalizing s with
  | nil => rfl
  | cons i is ih => simp [doAll, ih]

theorem doAll_input (is : List Instr) (s : State) : (doAll is s).input = s.input := by
  induction is generalizing s with
  | nil => rfl
  | cons i is ih => rw [doAll, ih, (doOp_model_fields s i).2.1]

/-- In a legal configuration a list of operations answers its next state. -/
theorem execAll_of_valid (is : List Instr) (h : s.cfg.valid = true) : execAll is s = .next (doAll is s) := by
  induction is generalizing s with
  | nil => rfl
  | cons i is ih =>
    rw [execAll, exec_eq_perform, perform_of_valid h, andThen_next, ih (by simpa using h), doAll]

/-- In any other configuration a list with an operation is refused. -/
theorem execAll_of_invalid (i : Instr) (is : List Instr) (h : s.cfg.valid = false) :
    execAll (i :: is) s = .refused .parametersBreakR4 := by
  rw [execAll, exec_eq_perform, perform_of_invalid h, andThen_refused]

/-- The operations of a cycle without reset, in their order (30_encoding.md R61). -/
theorem doAll_decodeCycle (w : StimWord) (h : Stim.rst w = false) (he : s.echo = false) :
    doAll (decodeCycle w) s =
      (let a := if Stim.evt w then doEvt s else s
       let b := if Stim.tick w then doTick a else a
       if Stim.cv w then doOp (decodeCommand (Stim.cb w)) b else b) := by
  cases h1 : Stim.evt w <;> cases h2 : Stim.tick w <;> cases h3 : Stim.cv w <;>
    simp [decodeCycle, h, h1, h2, h3, doAll, doOp, doIdle, State.setEcho]
  rw [← he]

/-- A cycle with reset is RESET alone (30_encoding.md R62). -/
theorem doAll_decodeCycle_rst (w : StimWord) (h : Stim.rst w = true) (s : State) :
    doAll (decodeCycle w) s = doReset s := by
  simp [decodeCycle, h, doAll, doOp]

/-- A step answers a next state exactly in a legal configuration, and then this one. -/
theorem step_next_iff :
    step s = .next t ↔ s.cfg.valid = true ∧ doAll (decodeCycle s.nextWord) s.beginCycle = t := by
  cases h : s.cfg.valid with
  | true => simp [step, cycleStep, runWord, execAll_of_valid (s := s.beginCycle) _ (by simpa using h)]
  | false =>
    obtain ⟨i, is, hi⟩ := List.exists_cons_of_ne_nil (decodeCycle_ne_nil s.nextWord)
    simp [step, cycleStep, runWord, hi, execAll_of_invalid (s := s.beginCycle) i is (by simpa using h)]

/-- The step on a listed word. -/
theorem step_of_input {w : StimWord} {ws : List StimWord} (h : s.input = w :: ws) :
    step s = runWord w s.beginCycle := by
  simp [step, cycleStep, State.nextWord, h]

/-- No operation reads the input list. -/
theorem doOp_withInput (i : Instr) (s : State) (ws : List StimWord) :
    doOp i (s.withInput ws) = (doOp i s).withInput ws := by
  cases i with
  | tick =>
    have h : (s.withInput ws).setTick ((s.withInput ws).tick + 1) = (s.setTick (s.tick + 1)).withInput ws := rfl
    simp only [doOp, doTick, h]
    by_cases hb : (s.setTick (s.tick + 1)).tick = (s.setTick (s.tick + 1)).cfg.windowTicks
    · rw [if_pos hb, if_pos (by exact hb), doFinalize_eq, doFinalize_eq]
      rfl
    · rw [if_neg hb, if_neg (by exact hb)]
  | evt =>
    simp only [doOp, doEvt_eq, doCount_eq]
    rfl
  | count =>
    simp only [doOp, doCount_eq]
    rfl
  | setcnt v =>
    simp only [doOp, doSetcnt_eq]
    rfl
  | finalize =>
    simp only [doOp, doFinalize_eq]
    rfl
  | _ => rfl

theorem doAll_withInput (is : List Instr) (s : State) (ws : List StimWord) :
    doAll is (s.withInput ws) = (doAll is s).withInput ws := by
  induction is generalizing s with
  | nil => rfl
  | cons i is ih => rw [doAll, doOp_withInput, ih, doAll]

/-- One cycle with a given word, the input list apart. -/
def afterWord (s : State) (w : StimWord) : State :=
  doAll (decodeCycle w) { s with cycle := s.cycle + 1, echo := false }

@[simp] theorem afterWord_cfg (s : State) (w : StimWord) : (afterWord s w).cfg = s.cfg := by
  simp [afterWord]

/-- A step whose word is listed. -/
theorem step_withInput_cons (s : State) (w : StimWord) (ws : List StimWord) (h : s.cfg.valid = true) :
    step (s.withInput (w :: ws)) = .next ((afterWord s w).withInput ws) :=
  step_next_iff.mpr ⟨h, by rw [afterWord, ← doAll_withInput]; rfl⟩

/-- A run whose first step answers a next state goes on from there. -/
theorem run_succ_of_next {m : State} (n : Nat) (h : step s = .next m) :
    Host.Core.run core (n + 1) s = Host.Core.run core n m := by
  have h' : core.step s = .next m := h
  simp [Host.Core.run, h']

/-- A run over words, cycle by cycle. -/
theorem runWords_eq_foldl (ws : List StimWord) (h : s.cfg.valid = true) :
    runWords ws s = .next ((ws.foldl afterWord s).withInput []) := by
  induction ws generalizing s with
  | nil => rfl
  | cons w ws ih =>
    rw [List.foldl_cons, ← ih (by simpa using h)]
    exact run_succ_of_next _ (step_withInput_cons s w ws h)

/-- What a reader surfaces is `wf`, and only while `valid` is 1 (43_snapshot.md R141). -/
theorem surfaced_out_eq_some {v : Nat} : surfaced (out s) = some v ↔ s.valid = true ∧ s.wf = v := by
  unfold surfaced out
  cases s.valid <;> simp

/-- Nothing is surfaced exactly while `valid` is 0 (43_snapshot.md R141). -/
theorem surfaced_out_eq_none : surfaced (out s) = none ↔ s.valid = false := by
  unfold surfaced out
  cases s.valid <;> simp

end Sys2Proof.Machine
end

