-- ==== Sys2Proof/Laws/PerInstr.lean ====
section
/-! SUPPORT. Statements about every operation as syntax, one lemma per constructor. -/

namespace Sys2Proof.Laws.Encoding

/-- A well-formed operation's word stands for that operation alone, with its operand; a micro-operation has no word (30_encoding.md section 4). -/
def Statement (i : Instr) : Prop :=
  ∀ c : Config, wellFormed c i = true →
    (i.isMicro = true ∧ encode i = none) ∨
    (i.isMicro = false ∧ ∃ w, encode i = some w ∧ decodeCycle w = [i])

theorem reset : Statement .reset := fun _ _ => .inr ⟨rfl, _, rfl, by decide⟩

theorem idle : Statement .idle := fun _ _ => .inr ⟨rfl, _, rfl, by decide⟩

theorem evt : Statement .evt := fun _ _ => .inr ⟨rfl, _, rfl, by decide⟩

theorem tick : Statement .tick := fun _ _ => .inr ⟨rfl, _, rfl, by decide⟩

/-- A command operation whose byte decodes back to it. -/
theorem of_byte {i : Instr} {b : Byte} (hm : i.isMicro = false) (he : encode i = some (commandWord b))
    (hd : decodeCommand b = i) : Statement i :=
  fun _ _ => .inr ⟨hm, _, he, by rw [decodeCycle_commandWord, hd]⟩

theorem cycleCal (lower : Bool) : Statement (.cycleCal lower) :=
  of_byte rfl rfl (decodeCommand_letterByte lower).1

theorem toggleHold (lower : Bool) : Statement (.toggleHold lower) :=
  of_byte rfl rfl (decodeCommand_letterByte lower).2.1

theorem cycleFilt (lower : Bool) : Statement (.cycleFilt lower) :=
  of_byte rfl rfl (decodeCommand_letterByte lower).2.2.1

theorem cyclePsc (lower : Bool) : Statement (.cyclePsc lower) :=
  of_byte rfl rfl (decodeCommand_letterByte lower).2.2.2

theorem echoLf : Statement .echoLf := of_byte rfl rfl (by decide)

theorem echoCr : Statement .echoCr := of_byte rfl rfl (by decide)

theorem cmdNop (b : Byte) : Statement (.cmdNop b) := fun c h =>
  of_byte rfl rfl (decodeCommand_of_no_action b (of_decide_eq_true h)) c h

theorem count : Statement .count := fun _ _ => .inl ⟨rfl, rfl⟩

theorem ovf : Statement .ovf := fun _ _ => .inl ⟨rfl, rfl⟩

theorem setcnt (v : Nat) : Statement (.setcnt v) := fun _ _ => .inl ⟨rfl, rfl⟩

theorem finalize : Statement .finalize := fun _ _ => .inl ⟨rfl, rfl⟩

end Sys2Proof.Laws.Encoding
end

