-- ==== Sys2Proof/Tests/Slice0.lean ====
section
/-! SUPPORT. The model's own tests: ill-formed terms are refused, words written out from the encoding decode, the spec's vectors (95_test_vectors.md) one step each, and a witness for the hypotheses of every statement. -/

namespace Sys2Proof.Tests

open Sys2Proof Sys2Proof.Machine

/-! ### States the tests start from -/

/-- The source's scenario (95_test_vectors.md V1): one overflow, CNT 12345, divide by 2, one tick before the boundary. -/
def scenario : State :=
  { State.reset with cnt := 12345, roc := 65536, pscIdx := 1, tick := 999, warm := true }

/-- A small legal configuration: a window of 2 ticks, a 2-bit counter, two prescaler settings. -/
def smallConfig : Config where
  cntWidth := 2
  rocWidth := 4
  wfWidth := 4
  tickWidth := 2
  presWidth := 1
  windowTicks := 2
  pscExp := [0, 1]
  filtLen := 3
  calLen := 1
  tickHz := 1000

/-- The start of a window in the small configuration, divide by 2, with an event in the residue. -/
def small : State := { State.reset with cfg := smallConfig, pscIdx := 1, pres := 1 }

/-- A state of a configuration 00_scope.md R4 excludes. -/
def illegal : State := { State.reset with cfg := { Config.reference with windowTicks := 0 } }

/-- The next state of an outcome. -/
def next? : Host.Outcome State Fault Refusal → Option State
  | .next t => some t
  | .fault _ => none
  | .refused _ => none

/-- One step with a given stimulus word, seen through `f`. -/
def stepSees {α : Type} (s : State) (w : StimWord) (f : State → α) : Option α :=
  (next? (step (s.withInput [w]))).map f

/-- One operation, seen through `f`. -/
def execSees {α : Type} (s : State) (i : Instr) (f : State → α) : Option α := (next? (exec i s)).map f

/-! ### WellFormed and the parameters refuse ill-formed terms -/

/-- 30_encoding.md R64: the byte of another row is no CMD_NOP. -/
theorem test_illFormed_cmdNop : wellFormed Config.reference (.cmdNop 0x68#8) = false := by decide

/-- 40_counting.md R85: SETCNT has the operands MAXV and 0 only. -/
theorem test_illFormed_setcnt : wellFormed Config.reference (.setcnt 65534) = false := by decide

/-- 30_encoding.md R61: no empty cycle, no other order, no micro-operation, no RESET with another operation. -/
theorem test_illFormed_cycles :
    [[], [Instr.tick, .evt], [.count], [.reset, .evt], [.idle, .tick], [.echoLf, .echoCr],
      [.evt, .tick, .echoLf, .echoLf]].all (fun is => !wellFormedCycle Config.reference is) = true := by decide

/-- An ill-formed operation in a cycle of a legal shape. -/
theorem test_illFormed_cycle_operand : wellFormedCycle Config.reference [.tick, .cmdNop 0x0A#8] = false := by decide

/-- 00_scope.md R4: one broken constraint each. -/
theorem test_illFormed_config :
    [{ Config.reference with cntWidth := 0 }, { Config.reference with cntWidth := 32 },
      { Config.reference with wfWidth := 35 }, { Config.reference with windowTicks := 0 },
      { Config.reference with windowTicks := 1024 }, { Config.reference with pscExp := [] },
      { Config.reference with pscExp := [1, 0] }, { Config.reference with pscExp := [0, 4] },
      { Config.reference with presWidth := 40, pscExp := [0, 32] }, { Config.reference with filtLen := 0 },
      { Config.reference with calLen := 0 }].all (fun c => !c.valid) = true := by decide

/-- 60_exceptions.md R150: an illegal parameter set is refused by name. -/
theorem test_illegal_parameters_refused : next? (exec .idle illegal) = none := by decide

/-! ### Words written out from 30_encoding.md R60, R64, R67 -/

theorem test_decode_reset : decodeCycle 0b111111111111#12 = [.reset] := by decide

theorem test_decode_idle : decodeCycle 0b000001001000#12 = [.idle] := by decide

theorem test_decode_evt : decodeCycle 0b010000000000#12 = [.evt] := by decide

theorem test_decode_tick : decodeCycle 0b001000000000#12 = [.tick] := by decide

theorem test_decode_cycleCal :
    decodeCycle 0b000101001111#12 = [.cycleCal false] ∧ decodeCycle 0b000101101111#12 = [.cycleCal true] := by decide

theorem test_decode_toggleHold :
    decodeCycle 0b000101001000#12 = [.toggleHold false] ∧ decodeCycle 0b000101101000#12 = [.toggleHold true] := by
  decide

theorem test_decode_cycleFilt :
    decodeCycle 0b000101000110#12 = [.cycleFilt false] ∧ decodeCycle 0b000101100110#12 = [.cycleFilt true] := by
  decide

theorem test_decode_cyclePsc :
    decodeCycle 0b000101010000#12 = [.cyclePsc false] ∧ decodeCycle 0b000101110000#12 = [.cyclePsc true] := by decide

theorem test_decode_echo :
    decodeCycle 0b000100001010#12 = [.echoLf] ∧ decodeCycle 0b000100001101#12 = [.echoCr] := by decide

/-- 42_control.md R120: 0x2A and 0x2D are CMD_NOP; a high bit is not ignored (V35). -/
theorem test_decode_cmdNop :
    decodeCycle 0b000100101010#12 = [.cmdNop 0x2A#8] ∧ decodeCycle 0b000111001000#12 = [.cmdNop 0xC8#8] := by decide

/-- 30_encoding.md R67: `EVT+TICK+CMD 'h'` is 0x768. -/
theorem test_decode_three : decodeCycle 0x768#12 = [.evt, .tick, .toggleHold true] := by decide

/-- The host's question on a row's bits, and a number wider than a word. -/
theorem test_decodeTableWord :
    decodeTableWord 16 0x10D = some .echoCr ∧ decodeTableWord 16 0x1000 = none := by decide

/-- 30_encoding.md R67: the words of the pseudo-operations. -/
theorem test_trace_words :
    traceWords Config.reference [.rst, .cycle true true (some 0x68#8), .cycle false false none, .rd, .hold, .filt,
      .psc, .cal, .nl, .evtTimes 2, .tickTimes 1] =
      [0x800#12, 0x768#12, 0x000#12, 0x000#12, 0x148#12, 0x146#12, 0x150#12, 0x14F#12, 0x10D#12, 0x400#12, 0x400#12,
        0x200#12] := by decide

/-! ### Vectors of 95_test_vectors.md, one step each -/

/-- V1, the source's own numbers. -/
theorem test_v1_finalize :
    stepSees scenario 0x200#12 (fun t => (t.wf, t.cnt, t.roc, t.tick)) = some (155762, 0, 0, 0) ∧
    stepSees scenario 0x200#12 (fun t => (t.valid, t.warm, t.wtog)) = some (true, true, true) := by decide

/-- V9: a wrap raises one overflow. -/
theorem test_v9_evt_wraps :
    stepSees { State.reset with cnt := 65535 } 0x400#12 (fun t => (t.cnt, t.roc)) = some (0, 0x10000) := by decide

/-- V14: the last event of a group of 8 counts. -/
theorem test_v14_evt_group :
    stepSees { State.reset with pscIdx := 3, pres := 6, cnt := 2 } 0x400#12 (fun t => (t.pres, t.cnt)) = some (7, 2) ∧
    stepSees { State.reset with pscIdx := 3, pres := 7, cnt := 2 } 0x400#12 (fun t => (t.pres, t.cnt)) = some (0, 3) := by
  decide

/-- V15: the accumulator wraps silently. -/
theorem test_v15_ovf_wraps : execSees { State.reset with roc := 0xFFFF0000 } .ovf State.roc = some 0 := by decide

/-- 40_counting.md R82, its example. -/
theorem test_ovf_adds_range : execSees { State.reset with roc := 0x10000 } .ovf State.roc = some 0x20000 := by decide

/-- 40_counting.md R81, its example. -/
theorem test_count_wraps :
    execSees { State.reset with cnt := 65535 } .count (fun t => (t.cnt, t.roc)) = some (0, 65536) := by decide

/-- V18, first write: MAXV raises no overflow. -/
theorem test_v18_setcnt_high :
    execSees scenario (.setcnt 65535) (fun t => (t.cnt, t.roc)) = some (65535, 65536) := by decide

/-- V18, second write: 0 over MAXV raises exactly one. -/
theorem test_v18_setcnt_zero :
    execSees { scenario with cnt := 65535 } (.setcnt 0) (fun t => (t.cnt, t.roc)) = some (0, 131072) := by decide

/-- V20: inside the window only TICK changes. -/
theorem test_v20_tick_inside :
    stepSees { scenario with tick := 998 } 0x200#12 (fun t => (t.tick, t.wf, t.cnt)) = some (999, 0, 12345) := by decide

/-- V22: a held boundary keeps WF and VALID, clears and toggles. -/
theorem test_v22_held_boundary :
    stepSees { State.reset with hold := true, wf := 0x1234, valid := true, warm := true, roc := 0x30000, cnt := 7,
                                tick := 999 } 0x200#12
      (fun t => (t.wf, t.valid, t.cnt, t.roc, t.wtog)) = some (0x1234, true, 0, 0, true) := by decide

/-- V23, V24: the shift drops the high bits silently. -/
theorem test_v23_v24_shift_wraps :
    execSees { State.reset with roc := 0x80000000, cnt := 1, pscIdx := 1 } .finalize State.wf = some 2 ∧
    execSees { State.reset with roc := 0xFFFF0000, cnt := 0xFFFF, pscIdx := 3 } .finalize State.wf =
      some 0xFFFFFFF8 := by decide

/-- V21: the first boundary never validates. -/
theorem test_v21_first_boundary :
    execSees State.reset .finalize (fun t => (t.wf, t.valid, t.warm, t.wtog)) = some (0, false, true, true) := by decide

/-- V27: the event counts in the closing window, hold is set after the boundary. -/
theorem test_v27_coincidence :
    stepSees { State.reset with tick := 999, cnt := 5, warm := true } 0x768#12
      (fun t => (t.wf, t.valid, t.cnt, t.hold, t.echo)) = some (6, true, 0, true, false) := by decide

/-- V28: the boundary uses the exponent of before the command. -/
theorem test_v28_prescaler_in_boundary_cycle :
    stepSees { State.reset with tick := 999, cnt := 5, warm := true } 0x350#12 (fun t => (t.wf, t.pscIdx, t.pres)) =
      some (5, 1, 0) := by decide

/-- V31: both cases of the letter. -/
theorem test_v31_toggleHold :
    stepSees State.reset 0x148#12 State.hold = some true ∧
    stepSees { State.reset with hold := true } 0x168#12 State.hold = some false := by decide

/-- V2: the fourth cycle of the filter returns to 0. -/
theorem test_v2_cycleFilt :
    stepSees { State.reset with filtIdx := 2 } 0x166#12 State.filtIdx = some 3 ∧
    stepSees { State.reset with filtIdx := 3 } 0x166#12 State.filtIdx = some 0 := by decide

/-- V32: the index wraps and the residue is cleared. -/
theorem test_v32_cyclePsc :
    stepSees { State.reset with pscIdx := 3, pres := 5 } 0x150#12 (fun t => (t.pscIdx, t.pres)) = some (0, 0) := by
  decide

/-- V33: the fourth cycle of the calibration output returns to 0. -/
theorem test_v33_cycleCal : stepSees { State.reset with calIdx := 3 } 0x16F#12 State.calIdx = some 0 := by decide

/-- V34: both newline bytes pulse `echo` and leave every register. -/
theorem test_v34_echo :
    stepSees scenario 0x10A#12 id = some { scenario with echo := true, cycle := 1 } ∧
    stepSees scenario 0x10D#12 id = some { scenario with echo := true, cycle := 1 } := by decide

/-- V3: `'q'` leaves every register. -/
theorem test_v3_cmdNop : stepSees scenario 0x171#12 id = some { scenario with cycle := 1 } := by decide

/-- V36, V38: no strobe, or `cb` without `cv`; a pulse of the cycle before ends. -/
theorem test_v36_idle :
    stepSees { scenario with echo := true } 0x048#12 id = some { scenario with cycle := 1 } := by decide

/-- V41: reset dominates every other strobe. -/
theorem test_v41_reset :
    stepSees { State.reset with cnt := 50, tick := 500, pscIdx := 1, hold := true } 0xFFF#12 id =
      some { State.reset with cycle := 1 } := by decide

/-- V40: the exponent on the port is the table's. -/
theorem test_v40_outputs :
    ((out { State.reset with pscIdx := 2 }).pscIdx, (out { State.reset with pscIdx := 2 }).pscExp) = (2, 2) := by decide

/-- The host's way in: the word presented is the very next one, after reset. -/
theorem test_withFetchWord :
    (next? (step (State.reset.withFetchWord 16 0x400))).map State.cnt = some 1 ∧
    (next? (step (State.reset.withFetchWord 16 0x14F))).map State.calIdx = some 1 := by decide

/-! ### A witness for the hypotheses of every statement -/

theorem witness_PowerOnStateIsWhatResetLeaves : State.reset.cfg = Config.reference := rfl

/-- The hypothesis "legal parameters" alone: ResetClearsEveryRegister, OverflowAddsTheRange, ForcedResetRaisesExactlyOneOverflow, ToggleHoldComplementsHold, CycleFiltAdvancesTheFilterIndex, CyclePscAdvancesTheIndexAndClearsTheResidue, CycleCalAdvancesTheCalibrationIndex, EchoChangesNoRegister, UnknownByteIsIgnored, CommandDispatchOfEveryByte, IdleChangesNoRegister, and the first clause of OnlyIllegalParametersAreRefused; in two configurations. -/
theorem witness_legalParameters : scenario.cfg.valid = true ∧ small.cfg.valid = true := by decide

theorem witness_OnlyIllegalParametersAreRefused : scenario.cfg.valid = true ∧ illegal.cfg.valid = false := by decide

theorem witness_UnknownByteIsIgnored :
    0x2A#8 ∉ [0x4F#8, 0x6F#8, 0x48#8, 0x68#8, 0x46#8, 0x66#8, 0x50#8, 0x70#8, 0x0A#8, 0x0D#8] := by decide

theorem witness_ResetDominatesTheCycle :
    (scenario.withInput [0xFFF#12]).cfg.valid = true ∧ (scenario.withInput [0xFFF#12]).input = [0xFFF#12] ∧
    (0xFFF#12).getLsbD 11 = true := by decide

theorem witness_LegalParametersObeyTheConstraints :
    Config.reference.valid = true ∧ Config.reference.pscExp[3]? = some 3 := by decide

theorem witness_TablesAreNeverWritten :
    (∃ t, exec .finalize scenario = .next t) ∧ ∃ t, step (scenario.withInput [0x200#12]) = .next t :=
  ⟨⟨_, rfl⟩, ⟨_, rfl⟩⟩

/-- The wrap at the end of a group, a count below it, and an event inside a group. -/
theorem witness_EvtPassesOnTheLastEventOfAGroup :
    [{ scenario with pres := 1, cnt := 65535 }, { scenario with pres := 1, cnt := 65534 }, scenario].all
      (fun s => s.cfg.valid && s.cfg.pscExp[s.pscIdx]? == some 1 && decide (s.pres < 2 ^ 1) &&
        decide (s.cnt < s.cfg.range)) = true := by decide

theorem witness_CountWrapsWithOneOverflow :
    scenario.cfg.valid = true ∧ 65535 < scenario.cfg.range ∧ 65534 < scenario.cfg.range := by decide

theorem witness_SetcntOverflowsOnlyOnAForcedWrap :
    scenario.cfg.valid = true ∧ 0 < scenario.cfg.range ∧ 65535 < scenario.cfg.range := by decide

theorem witness_CountingLaw :
    scenario.Inv ∧ State.reset.Inv ∧ State.reset.cnt = 0 ∧ State.reset.roc = 0 ∧
    65536 < 2 ^ State.reset.cfg.rocWidth := by decide

theorem witness_DividerLaw : small.Inv ∧ small.cfg.pscExp[small.pscIdx]? = some 1 := by decide

theorem witness_CountingFamilyFrame :
    (∃ t, exec .evt scenario = .next t) ∧ (∃ t, exec .count scenario = .next t) ∧
    (∃ t, exec .ovf scenario = .next t) ∧ ∃ t, exec (.setcnt 0) scenario = .next t :=
  ⟨⟨_, rfl⟩, ⟨_, rfl⟩, ⟨_, rfl⟩, ⟨_, rfl⟩⟩

/-- One tick before the last of the window, and the boundary. -/
theorem witness_TickCountsAndFinalizesAtTheBoundary :
    scenario.cfg.valid = true ∧ 998 < scenario.cfg.windowTicks ∧ 998 + 1 < scenario.cfg.windowTicks ∧
    scenario.tick < scenario.cfg.windowTicks ∧ scenario.tick + 1 = scenario.cfg.windowTicks := by decide

theorem witness_FinalizeRunsItsFiveSteps :
    scenario.cfg.valid = true ∧ scenario.cfg.pscExp[scenario.pscIdx]? = some 1 := by decide

theorem witness_FinalizeNetEffect :
    scenario.cfg.valid = true ∧ scenario.cfg.pscExp[scenario.pscIdx]? = some 1 := by decide

theorem witness_ExtendedCountIsAConcatenation : scenario.Inv := by decide

/-- A window of two ticks with an event in each cycle; hold clear at the boundary. -/
theorem witness_WindowLaw :
    small.Inv ∧ small.cfg.pscExp[small.pscIdx]? = some 1 ∧ small.cnt = 0 ∧ small.roc = 0 ∧ small.tick = 0 ∧
    (∀ w ∈ [0x400#12, 0x600#12], w.getLsbD 11 = false ∧ commands w .cyclePsc = false) ∧
    tickCount [0x400#12, 0x600#12] + 1 = small.cfg.windowTicks ∧ (0x600#12).getLsbD 11 = false ∧
    (0x600#12).getLsbD 9 = true ∧ (next? (runWords [0x400#12, 0x600#12] small)).map State.hold = some false := by
  decide

/-- The same with hold set inside the window. -/
theorem witness_WindowLaw_held :
    (∀ w ∈ [0x148#12, 0x600#12], w.getLsbD 11 = false ∧ commands w .cyclePsc = false) ∧
    tickCount [0x148#12, 0x600#12] + 1 = small.cfg.windowTicks ∧
    (next? (runWords [0x148#12, 0x600#12] small)).map State.hold = some true := by decide

theorem witness_HoldFreezesTheSnapshot :
    ({ scenario with hold := true } : State).cfg.valid = true ∧
    ∀ w ∈ [0x200#12, 0x750#12], w.getLsbD 11 = false ∧ commands w .toggleHold = false := by decide

theorem witness_OnlyAnUnheldBoundaryWritesTheSnapshot :
    scenario.tick < scenario.cfg.windowTicks ∧
    ∃ t, step (scenario.withInput [0x200#12]) = .next t ∧ t.wf ≠ scenario.wf :=
  ⟨by decide, _, rfl, by decide⟩

theorem witness_OnlyAnUnheldBoundaryWritesTheSnapshot_reset :
    ∃ t, step ({ scenario with wf := 7 }.withInput [0x800#12]) = .next t ∧ t.wf ≠ 7 :=
  ⟨_, rfl, by decide⟩

/-- An event and a command in the boundary cycle, hold clear; the same under hold; and a reset in it. -/
theorem witness_BoundaryCycleCoincidence :
    scenario.Inv ∧ ({ scenario with hold := true } : State).Inv ∧
    scenario.cfg.pscExp[scenario.pscIdx]? = some 1 ∧ scenario.tick + 1 = scenario.cfg.windowTicks ∧
    [0x750#12, 0x768#12, 0xE00#12].all (fun w => w.getLsbD 9) = true ∧
    commands 0x750#12 .cyclePsc = true ∧ commands 0x768#12 .toggleHold = true ∧ (0xE00#12).getLsbD 11 = true := by
  decide

theorem witness_WindowTraceEndsOnABoundary :
    small.Inv ∧ small.cfg.pscExp[small.pscIdx]? = some 1 ∧ small.tick = 0 := by decide

theorem witness_CommandsLeaveTheMeasurementAlone :
    (Instr.cyclePsc true).isCommand = true ∧ ∃ t, exec (.cyclePsc true) scenario = .next t := ⟨rfl, _, rfl⟩

/-- Every selector at the last index of its table. -/
theorem witness_CyclingLaw : ({ scenario with filtIdx := 3, calIdx := 3, pscIdx := 3 } : State).Inv := by decide

theorem witness_FilterAndCalibrationReachNoOtherRegister :
    (∃ t, step (scenario.withInput [0x200#12]) = .next t) ∧
    ∃ u, step { scenario.withInput [0x200#12] with filtIdx := 3, calIdx := 2 } = .next u :=
  ⟨⟨_, rfl⟩, ⟨_, rfl⟩⟩

theorem witness_CycleWithoutStrobeChangesNoRegister :
    (scenario.withInput [0x0FF#12]).cfg.valid = true ∧ (scenario.withInput [0x0FF#12]).input = [0x0FF#12] ∧
    0x0FF#12 &&& 0xF00#12 = 0x000#12 := by decide

theorem witness_OutputsShowTheRegisters : scenario.cfg.pscExp[scenario.pscIdx]? = some 1 := by decide

/-- A pulse, and a cycle without one. -/
theorem witness_EchoPulsesAfterANewlineCycleOnly :
    (∃ t, step (scenario.withInput [0x10A#12]) = .next t ∧ t.echo = true) ∧
    ∃ t, step (scenario.withInput [0x12A#12]) = .next t ∧ t.echo = false :=
  ⟨⟨_, rfl, rfl⟩, ⟨_, rfl, rfl⟩⟩

theorem witness_ValidRisesOnlyWithAWarmCapture :
    scenario.Inv ∧ scenario.cfg.pscExp[scenario.pscIdx]? = some 1 ∧ scenario.valid = false ∧
    ∃ t, step (scenario.withInput [0x200#12]) = .next t ∧ t.valid = true :=
  ⟨by decide, by decide, rfl, _, rfl, rfl⟩

/-- The second boundary under hold. -/
theorem witness_WarmUpSampleStaysWhileInvalid :
    ∃ t, step ({ scenario with hold := true, wf := 7 }.withInput [0x200#12]) = .next t ∧ scenario.warm = true ∧
      scenario.tick < scenario.cfg.windowTicks ∧ t.valid = false :=
  ⟨_, rfl, by decide, by decide, rfl⟩

/-- One tick before the second boundary, and the second boundary itself, hold off throughout. -/
theorem witness_NothingIsSurfacedBeforeTheSecondBoundary :
    small.cfg.valid = true ∧ small.tick = 0 ∧ small.warm = false ∧ small.valid = false ∧ small.hold = false ∧
    (∀ w ∈ [0x200#12, 0x600#12, 0x200#12], w.getLsbD 11 = false) ∧
    tickCount [0x200#12, 0x600#12, 0x200#12] < 2 * small.cfg.windowTicks ∧
    (∀ w ∈ [0x200#12, 0x600#12, 0x200#12, 0x200#12], w.getLsbD 11 = false ∧ commands w .toggleHold = false) ∧
    2 * small.cfg.windowTicks ≤ tickCount [0x200#12, 0x600#12, 0x200#12, 0x200#12] := by decide

theorem witness_StepPerformsEvtThenTickThenCommand :
    (scenario.withInput [0x768#12]).cfg.valid = true ∧ (scenario.withInput [0x768#12]).input = [0x768#12] := by decide

theorem witness_StepRunsTheDecodedOperations :
    (scenario.withInput [0x200#12]).input = [0x200#12] ∧ (scenario.withInput [0x200#12]).cfg.valid = true ∧
    decodeCycle 0x200#12 = [.tick] := by decide

theorem witness_PresentedWordRunsNext : State.reset.cfg.valid = true ∧ 0x14F < 2 ^ 16 := by decide

theorem witness_PresentedWordRunsNext_decodes : decodeBits 0x14F = .ok [.cycleCal false] := rfl

theorem witness_UnlistedStimulusIsSomeWord : State.reset.input = [] := rfl

theorem witness_ByteWithoutCommandStrobeIsIgnored :
    (0x648#12).getLsbD 8 = false ∧ 0x648#12 &&& 0xF00#12 = 0x600#12 &&& 0xF00#12 := by decide

theorem witness_EvtAndInnerTickCommute :
    ({ scenario with tick := 998 } : State).tick + 1 < scenario.cfg.windowTicks := by decide

theorem witness_EncodedOperationDecodesToItself :
    wellFormed Config.reference (.cmdNop 0x71#8) = true ∧ wellFormed Config.reference (.setcnt 65535) = true ∧
    encode (.toggleHold true) = some 0x168#12 := by decide

theorem witness_EncodedCycleDecodesToItself :
    wellFormedCycle Config.reference [.evt, .tick, .cmdNop 0x71#8] = true := by decide

theorem witness_ResetStateMeetsTheInvariants : ∃ t, exec .reset scenario = .next t := ⟨_, rfl⟩

theorem witness_EveryOperationKeepsTheInvariants :
    scenario.Inv ∧ ∃ t, exec .finalize scenario = .next t := ⟨by decide, _, rfl⟩

theorem witness_EveryStepKeepsTheInvariants :
    small.Inv ∧ ∃ t, step (small.withInput [0x768#12]) = .next t := ⟨by decide, _, rfl⟩

/-- Hold on at the second boundary (95_test_vectors.md V30, in the small configuration): from the third on a value is surfaced. -/
theorem witness_SurfacedValueIsALaterWindowsCount :
    small.Inv ∧ small.valid = false ∧
    ∃ t, runWords [0x600#12, 0x348#12, 0x200#12, 0x368#12, 0x400#12, 0x400#12, 0x600#12, 0x600#12] small = .next t ∧
      surfaced (out t) = some 4 := ⟨by decide, rfl, _, rfl, rfl⟩

/-- 43_snapshot.md R142: hold on at the second boundary keeps the warm-up sample hidden. -/
theorem test_held_second_boundary_surfaces_nothing :
    ∃ t, runWords [0x600#12, 0x348#12, 0x200#12, 0x200#12] small = .next t ∧
      t.wf = 2 ∧ surfaced (out t) = none := ⟨_, rfl, rfl, rfl⟩

end Sys2Proof.Tests
end

section
/-! PROOFS. The parameters (00_scope.md R3, R4). -/

namespace Sys2Proof

/-- Settles O4: RANGE and MAXV by definition, the constraints by `Config.valid_iff`. Two of them R4 states otherwise than the check: 1 ≤ PSC_LEN, which PSC_EXP[0] = 0 implies (`Config.pscLen_pos`), and the bounds on PSC_EXP, by index there and by entry in the check. -/
theorem legalParametersObeyTheConstraints : Obligations.LegalParametersObeyTheConstraints := by
  intro c
  refine ⟨rfl, rfl, fun hvalid => ?_, ?_⟩
  · obtain ⟨hcnt, hroc, hwf, hwin, htick, hfilt, hcal, hzero, hexp⟩ := Config.valid_iff.mp hvalid
    have hlen : 1 ≤ c.pscExp.length := Config.pscLen_pos hvalid
    exact ⟨⟨hcnt, hroc⟩, hwf, ⟨hwin, htick⟩, ⟨hlen, hfilt, hcal⟩, hzero,
      fun _ e he => hexp e (List.mem_of_getElem? he)⟩
  · rintro ⟨⟨hcnt, hroc⟩, hwf, ⟨hwin, htick⟩, ⟨-, hfilt, hcal⟩, hzero, hexp⟩
    have hmem : ∀ e ∈ c.pscExp, e ≤ c.presWidth ∧ e < c.wfWidth := by
      intro e he
      obtain ⟨i, hi⟩ := List.getElem?_of_mem he
      exact hexp i e hi
    exact Config.valid_iff.mpr ⟨hcnt, hroc, hwf, hwin, htick, hfilt, hcal, hzero, hmem⟩

end Sys2Proof
end

section
/-! PROOFS. The invariants (10_state.md R26 to R31): one lemma per operation, then the step. -/

namespace Sys2Proof.Machine

variable {s t : State}

/-! ### What keeps the invariants -/

/-- The invariants speak neither of `echo` nor of the model's own input and cycle fields. -/
theorem inv_setEcho {b : Bool} : (s.setEcho b).Inv ↔ s.Inv := Iff.rfl

theorem inv_beginCycle : s.beginCycle.Inv ↔ s.Inv := Iff.rfl

/-- An overflow keeps ROC a ROC_WIDTH-bit multiple of RANGE (10_state.md R26), because RANGE divides 2^ROC_WIDTH. -/
theorem roc_add_range_aligned (hs : s.Inv) :
    (s.roc + s.cfg.range) % 2 ^ s.cfg.rocWidth < 2 ^ s.cfg.rocWidth ∧
    (s.roc + s.cfg.range) % 2 ^ s.cfg.rocWidth % s.cfg.range = 0 := by
  obtain ⟨hvalid, -, haligned, -⟩ := hs
  refine ⟨Nat.mod_lt _ (Nat.two_pow_pos _), ?_⟩
  rw [Nat.mod_mod_of_dvd _ (Config.range_dvd hvalid), Nat.add_mod_right, haligned]

/-- What the counting family has to show: CNT, ROC and PRES of their widths, ROC aligned, PRES inside its group. -/
theorem inv_with_counters {cnt roc pres : Nat} (hs : s.Inv) (hcnt : cnt < s.cfg.range)
    (hroc : roc < 2 ^ s.cfg.rocWidth ∧ roc % s.cfg.range = 0) (hpres : pres < 2 ^ exponent s) :
    State.Inv { s with cnt := cnt, roc := roc, pres := pres } := by
  obtain ⟨hvalid, ⟨-, -, hwf, htick⟩, -, -, hidx, hcold⟩ := hs
  exact ⟨hvalid, ⟨hcnt, hroc.1, hwf, htick⟩, hroc.2, hpres, hidx, hcold⟩

/-! ### The operations -/

/-- RESET needs a legal configuration alone: every register is 0, and entry 0 of each table exists. -/
theorem inv_doReset (hvalid : s.cfg.valid = true) : (doReset s).Inv := by
  obtain ⟨-, -, -, hwin, -, hfilt, hcal, -, -⟩ := Config.valid_iff.mp hvalid
  exact ⟨hvalid, ⟨s.cfg.range_pos, Nat.two_pow_pos _, Nat.two_pow_pos _, hwin⟩, Nat.zero_mod _, Nat.two_pow_pos _,
    ⟨hfilt, Config.pscLen_pos hvalid, hcal⟩, fun _ => by contradiction, fun _ => rfl⟩

theorem inv_doOvf (hs : s.Inv) : (doOvf s).Inv := by
  have ⟨_, ⟨hcnt, _⟩, _, hpres, _⟩ := hs
  rw [doOvf_eq]
  exact inv_with_counters hs hcnt (roc_add_range_aligned hs) hpres

theorem inv_doCount (hs : s.Inv) : (doCount s).Inv := by
  have ⟨_, ⟨_, hroc, _⟩, haligned, hpres, _⟩ := hs
  by_cases hmax : s.cnt = s.cfg.maxv
  · rw [doCount_of_maxv s hmax]
    exact inv_with_counters hs s.cfg.range_pos (roc_add_range_aligned hs) hpres
  · rw [doCount_of_ne_maxv s hmax]
    exact inv_with_counters hs (Nat.mod_lt _ s.cfg.range_pos) ⟨hroc, haligned⟩ hpres

theorem inv_doSetcnt (v : Nat) (hs : s.Inv) : (doSetcnt v s).Inv := by
  have ⟨_, ⟨_, hroc, _⟩, haligned, hpres, _⟩ := hs
  rw [doSetcnt_eq]
  refine inv_with_counters hs (Nat.mod_lt _ s.cfg.range_pos) ?_ hpres
  split
  · exact roc_add_range_aligned hs
  · exact ⟨hroc, haligned⟩

/-- A residue below 2^e - 1 stays below 2^e, and 2^e fits PRES (00_scope.md R4). -/
theorem inv_doEvt (hs : s.Inv) : (doEvt s).Inv := by
  have ⟨hvalid, ⟨hcnt, hroc, _⟩, haligned, hpres, ⟨_, hpsc, _⟩, _⟩ := hs
  by_cases hlast : s.pres = 2 ^ exponent s - 1
  · rw [doEvt_of_group_done s hlast]
    exact inv_doCount (inv_with_counters hs hcnt ⟨hroc, haligned⟩ (Nat.two_pow_pos _))
  · rw [doEvt_of_group_open s hlast]
    have hnext : s.pres + 1 < 2 ^ exponent s := by
      have : s.pres < 2 ^ exponent s := hpres
      omega
    exact inv_with_counters hs hcnt ⟨hroc, haligned⟩ ((Nat.mod_le _ _).trans_lt hnext)

/-- A boundary sets WARM, so both clauses of `ColdIsEmpty` hold after it whatever it captures. -/
theorem inv_doFinalize (hs : s.Inv) : (doFinalize s).Inv := by
  obtain ⟨hvalid, ⟨-, -, hwf, htick⟩, -, hpres, hidx, -⟩ := hs
  rw [doFinalize_eq]
  refine ⟨hvalid, ⟨s.cfg.range_pos, Nat.two_pow_pos _, ?_, Nat.zero_lt_of_lt htick⟩, Nat.zero_mod _, hpres, hidx,
    fun _ => rfl, fun _ => by contradiction⟩
  show (if s.hold then s.wf else scaledCount s) < 2 ^ s.cfg.wfWidth
  split
  · exact hwf
  · exact Nat.mod_lt _ (Nat.two_pow_pos _)

theorem inv_doTick (hs : s.Inv) : (doTick s).Inv := by
  have ⟨hvalid, ⟨hcnt, hroc, hwf, htick⟩, hrest⟩ := hs
  obtain ⟨-, -, -, -, hwidth, -⟩ := Config.valid_iff.mp hvalid
  rcases Nat.lt_or_eq_of_le (Nat.succ_le_of_lt htick) with hinside | hboundary
  · rw [doTick_of_inside s hinside hwidth]
    exact ⟨hvalid, ⟨hcnt, hroc, hwf, hinside⟩, hrest⟩
  · rw [doTick_of_boundary s hboundary hwidth]
    exact inv_doFinalize hs

theorem inv_doCycleFilt (hs : s.Inv) : (doCycleFilt s).Inv := by
  obtain ⟨hvalid, hwidth, haligned, hpres, ⟨hfilt, hpsc, hcal⟩, hcold⟩ := hs
  exact ⟨hvalid, hwidth, haligned, hpres, ⟨Nat.mod_lt _ (Nat.zero_lt_of_lt hfilt), hpsc, hcal⟩, hcold⟩

theorem inv_doCycleCal (hs : s.Inv) : (doCycleCal s).Inv := by
  obtain ⟨hvalid, hwidth, haligned, hpres, ⟨hfilt, hpsc, hcal⟩, hcold⟩ := hs
  exact ⟨hvalid, hwidth, haligned, hpres, ⟨hfilt, hpsc, Nat.mod_lt _ (Nat.zero_lt_of_lt hcal)⟩, hcold⟩

/-- The residue is cleared with the change of setting (42_control.md R123), so it is inside the new group. -/
theorem inv_doCyclePsc (hs : s.Inv) : (doCyclePsc s).Inv := by
  obtain ⟨hvalid, hwidth, haligned, -, ⟨hfilt, hpsc, hcal⟩, hcold⟩ := hs
  refine ⟨hvalid, hwidth, haligned, ?_, ⟨hfilt, Nat.mod_lt _ (Nat.zero_lt_of_lt hpsc), hcal⟩, hcold⟩
  show 0 % 2 ^ s.cfg.presWidth < 2 ^ exponent (doCyclePsc s)
  rw [Nat.zero_mod]
  exact Nat.two_pow_pos _

theorem inv_doOp (i : Instr) (hs : s.Inv) : (doOp i s).Inv := by
  cases i with
  | reset => exact inv_doReset hs.1
  | evt => exact inv_doEvt hs
  | tick => exact inv_doTick hs
  | count => exact inv_doCount hs
  | ovf => exact inv_doOvf hs
  | setcnt v => exact inv_doSetcnt v hs
  | finalize => exact inv_doFinalize hs
  | cycleFilt _ => exact inv_setEcho.mpr (inv_doCycleFilt hs)
  | cyclePsc _ => exact inv_setEcho.mpr (inv_doCyclePsc hs)
  | cycleCal _ => exact inv_setEcho.mpr (inv_doCycleCal hs)
  | toggleHold _ | idle | echoLf | echoCr | cmdNop _ => exact hs

theorem inv_doAll (is : List Instr) (hs : s.Inv) : (doAll is s).Inv := by
  induction is generalizing s with
  | nil => exact hs
  | cons i is ih => exact ih (inv_doOp i hs)

/-! ### The statements -/

/-- Settles O55: `inv_doOp`, one lemma per operation. -/
theorem everyOperationKeepsTheInvariants : Obligations.EveryOperationKeepsTheInvariants := by
  intro i s t hs hexec
  rw [exec_eq_perform, perform_next_iff] at hexec
  obtain ⟨-, rfl⟩ := hexec
  exact inv_doOp i hs

/-- Settles O56: the operations of any word, in order, keep what each of them keeps. -/
theorem everyStepKeepsTheInvariants : Obligations.EveryStepKeepsTheInvariants := by
  intro s t hs hstep
  obtain ⟨-, rfl⟩ := step_next_iff.mp hstep
  exact inv_doAll _ (inv_beginCycle.mpr hs)

/-- Settles O1: RESET zeroes every register and leaves the parameters, here the reference ones, which are legal. -/
theorem powerOnStateIsWhatResetLeaves : Obligations.PowerOnStateIsWhatResetLeaves := by
  refine ⟨by decide, rfl, fun s hcfg => ?_⟩
  have hvalid : s.cfg.valid = true := by rw [hcfg]; decide
  rw [exec_eq_perform, perform_of_valid hvalid]
  simp [doOp, doReset, State.reset, hcfg]

/-- Settles O54: a state RESET answers has legal parameters, so `inv_doReset` applies to it. -/
theorem resetStateMeetsTheInvariants : Obligations.ResetStateMeetsTheInvariants := by
  refine ⟨inv_doReset (s := State.reset) (by decide), fun s t hexec => ?_⟩
  rw [exec_eq_perform, perform_next_iff] at hexec
  obtain ⟨hvalid, rfl⟩ := hexec
  exact inv_doReset hvalid

end Sys2Proof.Machine
end

section
/-! PROOFS. Who writes the snapshot: WF and VALID over one step (10_state.md R13, R21, R30). -/

namespace Sys2Proof.Machine

variable {s t : State}

/-! ### The count a boundary captures -/

/-- COUNT adds one to the extended count modulo 2^ROC_WIDTH, the wrap included (40_counting.md R83). -/
theorem doCount_sum_modEq (hcnt : s.cnt < s.cfg.range) :
    (doCount s).roc + (doCount s).cnt ≡ s.roc + s.cnt + 1 [MOD 2 ^ s.cfg.rocWidth] := by
  have hrange := s.cfg.maxv_add_one
  by_cases hmax : s.cnt = s.cfg.maxv
  · have hsum : s.roc + s.cnt + 1 = s.roc + s.cfg.range := by omega
    rw [doCount_of_maxv s hmax, hsum]
    exact Nat.mod_modEq _ _
  · have hbelow : s.cnt + 1 < s.cfg.range := by omega
    rw [doCount_of_ne_maxv s hmax, Nat.mod_eq_of_lt hbelow]
    exact Nat.ModEq.refl _

/-- EVT adds one to the extended count when it completes a group, and nothing otherwise (40_counting.md R80). -/
theorem doEvt_sum_modEq (hcnt : s.cnt < s.cfg.range) :
    (doEvt s).roc + (doEvt s).cnt ≡
      s.roc + s.cnt + (if s.pres + 1 = 2 ^ exponent s then 1 else 0) [MOD 2 ^ s.cfg.rocWidth] := by
  have hpos : 0 < 2 ^ exponent s := Nat.two_pow_pos _
  by_cases hlast : s.pres = 2 ^ exponent s - 1
  · rw [doEvt_of_group_done s hlast, if_pos (by omega)]
    exact doCount_sum_modEq (s := { s with pres := 0 }) hcnt
  · rw [doEvt_of_group_open s hlast, if_neg (by omega)]
    exact Nat.ModEq.refl _

/-- The state the TICK of a cycle meets: the event of the cycle is counted first (30_encoding.md R61). -/
def afterEvent (w : StimWord) (s : State) : State := if Stim.evt w then doEvt s else s

/-- EVT writes PRES, CNT and ROC alone. -/
theorem afterEvent_eq (w : StimWord) (s : State) :
    ∃ pres cnt roc, afterEvent w s = { s with pres := pres, cnt := cnt, roc := roc } := by
  unfold afterEvent
  split
  · exact ⟨_, _, _, doEvt_eq s⟩
  · exact ⟨_, _, _, rfl⟩

/-- The closing window's scaled count, the event of the cycle included (41_window.md R102). -/
theorem scaledCount_afterEvent (w : StimWord) (hvalid : s.cfg.valid = true) (hcnt : s.cnt < s.cfg.range) :
    scaledCount (afterEvent w s) =
      ((s.roc + s.cnt + (if Stim.evt w = true ∧ s.pres + 1 = 2 ^ exponent s then 1 else 0)) * 2 ^ exponent s) %
        2 ^ s.cfg.wfWidth := by
  unfold afterEvent
  cases Stim.evt w with
  | false => simp [scaledCount_eq hvalid]
  | true =>
    have hframe := doEvt_eq s
    have hcfg : (doEvt s).cfg = s.cfg := by rw [hframe]
    have hexp : exponent (doEvt s) = exponent s := exponent_congr hcfg (by rw [hframe])
    have hsum := doEvt_sum_modEq hcnt
    rw [Config.roc_eq_wf hvalid] at hsum
    simp only [if_true, true_and]
    rw [scaledCount_eq (by rwa [hcfg]), hcfg, hexp]
    exact hsum.mul_right _

/-! ### WF and VALID over one step -/

/-- TICK leaves WF and VALID but at the boundary of a window with HOLD clear, where it captures the scaled count and raises VALID if WARM is set (41_window.md R100, R102). -/
theorem doTick_snapshot (hvalid : s.cfg.valid = true) (htick : s.tick < s.cfg.windowTicks) :
    ((doTick s).wf = s.wf ∧ (doTick s).valid = s.valid) ∨
    (s.tick + 1 = s.cfg.windowTicks ∧ s.hold = false ∧
      (doTick s).wf = scaledCount s ∧ (doTick s).valid = (s.warm || s.valid)) := by
  obtain ⟨-, -, -, -, hwidth, -⟩ := Config.valid_iff.mp hvalid
  rcases Nat.lt_or_eq_of_le (Nat.succ_le_of_lt htick) with hinside | hboundary
  · rw [doTick_of_inside s hinside hwidth]
    exact .inl ⟨rfl, rfl⟩
  · rw [doTick_of_boundary s hboundary hwidth, doFinalize_eq]
    cases hhold : s.hold with
    | true => exact .inl ⟨rfl, rfl⟩
    | false => exact .inr ⟨hboundary, rfl, rfl, by cases hwarm : s.warm <;> simp [validAfterCapture, hwarm]⟩

/-- No command writes WF or VALID (42_control.md R128). -/
theorem doOp_command_snapshot {i : Instr} (hi : i.isCommand = true) (s : State) :
    (doOp i s).wf = s.wf ∧ (doOp i s).valid = s.valid := by
  cases i with
  | cycleCal _ | toggleHold _ | cycleFilt _ | cyclePsc _ | echoLf | echoCr | cmdNop _ => exact ⟨rfl, rfl⟩
  | reset | idle | evt | tick | count | ovf | setcnt _ | finalize => contradiction

/-- What the strobe `cv` of a word adds to a cycle: the command of its byte, if it is set (30_encoding.md R61). -/
def doCommandOf (w : StimWord) (s : State) : State := if Stim.cv w then doOp (decodeCommand (Stim.cb w)) s else s

theorem doCommandOf_snapshot (w : StimWord) (s : State) :
    (doCommandOf w s).wf = s.wf ∧ (doCommandOf w s).valid = s.valid := by
  unfold doCommandOf
  split
  · exact doOp_command_snapshot (decodeCommand_isCommand _) s
  · exact ⟨rfl, rfl⟩

/-- A cycle without reset: EVT, then TICK, then the command (30_encoding.md R61). -/
theorem doAll_decodeCycle_eq (w : StimWord) (hrst : Stim.rst w = false) (hecho : s.echo = false) :
    doAll (decodeCycle w) s =
      doCommandOf w (if Stim.tick w then doTick (afterEvent w s) else afterEvent w s) :=
  doAll_decodeCycle w hrst hecho

/-- A step without reset writes WF or VALID at an unheld boundary only, and captures the closing window there. -/
theorem step_snapshot (hstep : step s = .next t) (htick : s.tick < s.cfg.windowTicks)
    (hrst : Stim.rst s.nextWord = false) :
    (t.wf = s.wf ∧ t.valid = s.valid) ∨
    (Stim.tick s.nextWord = true ∧ s.tick + 1 = s.cfg.windowTicks ∧ s.hold = false ∧
      t.wf = scaledCount (afterEvent s.nextWord s.beginCycle) ∧ t.valid = (s.warm || s.valid)) := by
  obtain ⟨hvalid, rfl⟩ := step_next_iff.mp hstep
  rw [doAll_decodeCycle_eq _ hrst rfl, (doCommandOf_snapshot _ _).1, (doCommandOf_snapshot _ _).2]
  obtain ⟨pres, cnt, roc, hevent⟩ := afterEvent_eq s.nextWord s.beginCycle
  cases htickBit : Stim.tick s.nextWord with
  | false => exact .inl (by simp [hevent])
  | true =>
    have := doTick_snapshot (s := afterEvent s.nextWord s.beginCycle) (by simpa [hevent]) (by simpa [hevent])
    simpa [hevent] using this

/-! ### The statements about the snapshot -/

/-- Settles O21: with reset the first case holds, and without it `step_snapshot` gives the boundary. -/
theorem onlyAnUnheldBoundaryWritesTheSnapshot : Obligations.OnlyAnUnheldBoundaryWritesTheSnapshot := by
  intro s t htick hstep hchanged
  cases hrst : Stim.rst s.nextWord with
  | true => exact .inl hrst
  | false =>
    rcases step_snapshot hstep htick hrst with ⟨hwf, -⟩ | ⟨htickBit, hboundary, hhold, -, -⟩
    · exact absurd hwf hchanged
    · exact .inr ⟨htickBit, hboundary, hhold⟩

/-- Settles O39: a capture from a warm state raises VALID, so a step that ends with VALID = 0 captures nothing. -/
theorem warmUpSampleStaysWhileInvalid : Obligations.WarmUpSampleStaysWhileInvalid := by
  intro s t htick hstep hrst hwarm hinvalid
  rcases step_snapshot hstep htick hrst with ⟨hwf, -⟩ | ⟨-, -, -, -, hraised⟩
  · exact hwf
  · simp [hinvalid, hwarm] at hraised

/-- Settles O38: RESET clears VALID, so the step is one without reset, and its only case that raises VALID is the capture of a warm window, whose count `scaledCount_afterEvent` gives. -/
theorem validRisesOnlyWithAWarmCapture : Obligations.ValidRisesOnlyWithAWarmCapture := by
  intro s t e hinv he hstep hinvalid hraised
  obtain ⟨hvalid, ⟨hcnt, -, -, htick⟩, -⟩ := hinv
  have hrst : Stim.rst s.nextWord = false := by
    by_contra hreset
    obtain ⟨-, rfl⟩ := step_next_iff.mp hstep
    rw [doAll_decodeCycle_rst _ (by simpa using hreset)] at hraised
    exact Bool.false_ne_true hraised
  rcases step_snapshot hstep htick hrst with ⟨-, hkept⟩ | ⟨htickBit, hboundary, hhold, hwf, hwarm⟩
  · simp [hkept, hinvalid] at hraised
  · have hwarm' : s.warm = true := by simpa [hraised, hinvalid] using hwarm.symm
    refine ⟨hrst, htickBit, hboundary, hwarm', hhold, ?_⟩
    have hcount := scaledCount_afterEvent (s := s.beginCycle) s.nextWord hvalid hcnt
    rw [exponent_of_getElem? (s := s.beginCycle) he] at hcount
    exact hwf.trans hcount

end Sys2Proof.Machine
end

section
/-! PROOFS. The selectors no other register depends on: FILT_IDX and CAL_IDX (10_state.md R17, R19). -/

namespace Sys2Proof.Machine

/-- The state with other values in FILT_IDX and CAL_IDX. -/
def State.withSelectors (filt cal : Nat) (s : State) : State := { s with filtIdx := filt, calIdx := cal }

theorem doFinalize_withSelectors (filt cal : Nat) (s : State) :
    doFinalize (s.withSelectors filt cal) = (doFinalize s).withSelectors filt cal := by
  rw [doFinalize_eq, doFinalize_eq]
  rfl

/-- The comparison of TICK with WINDOW_TICKS reads no selector, so both states take the same branch. -/
theorem doTick_withSelectors (filt cal : Nat) (s : State) :
    doTick (s.withSelectors filt cal) = (doTick s).withSelectors filt cal := by
  have hbranches := apply_ite (State.withSelectors filt cal)
    ((s.setTick (s.tick + 1)).tick = s.cfg.windowTicks)
    (doFinalize (s.setTick (s.tick + 1))) (s.setTick (s.tick + 1))
  rw [← doFinalize_withSelectors] at hbranches
  exact hbranches.symm

/-- An operation on states that differ in FILT_IDX and CAL_IDX alone answers such states: it reads a selector only to write the same selector (10_state.md R17, R19). -/
theorem doOp_withSelectors (i : Instr) (filt cal : Nat) (s : State) :
    ∃ filt' cal', doOp i (s.withSelectors filt cal) = (doOp i s).withSelectors filt' cal' := by
  cases i with
  | evt =>
    simp only [doOp, doEvt_eq, doCount_eq]
    exact ⟨filt, cal, rfl⟩
  | count =>
    simp only [doOp, doCount_eq]
    exact ⟨filt, cal, rfl⟩
  | setcnt v =>
    simp only [doOp, doSetcnt_eq]
    exact ⟨filt, cal, rfl⟩
  | finalize => exact ⟨filt, cal, doFinalize_withSelectors filt cal s⟩
  | tick => exact ⟨filt, cal, doTick_withSelectors filt cal s⟩
  | reset => exact ⟨0, 0, rfl⟩
  | cycleFilt _ => exact ⟨(filt + 1) % s.cfg.filtLen, cal, rfl⟩
  | cycleCal _ => exact ⟨filt, (cal + 1) % s.cfg.calLen, rfl⟩
  | cyclePsc _ | toggleHold _ | ovf | idle | echoLf | echoCr | cmdNop _ => exact ⟨filt, cal, rfl⟩

theorem doAll_withSelectors (is : List Instr) (filt cal : Nat) (s : State) :
    ∃ filt' cal', doAll is (s.withSelectors filt cal) = (doAll is s).withSelectors filt' cal' := by
  induction is generalizing s filt cal with
  | nil => exact ⟨filt, cal, rfl⟩
  | cons i is ih =>
    obtain ⟨filt', cal', hop⟩ := doOp_withSelectors i filt cal s
    rw [doAll, hop]
    exact ih filt' cal' (doOp i s)

/-- Settles O33: both steps perform the same word's operations, and `doAll_withSelectors` relates their ends. -/
theorem filterAndCalibrationReachNoOtherRegister : Obligations.FilterAndCalibrationReachNoOtherRegister := by
  intro s t u filt cal hstep hstep'
  obtain ⟨-, rfl⟩ := step_next_iff.mp hstep
  obtain ⟨-, rfl⟩ := step_next_iff.mp hstep'
  obtain ⟨filt', cal', hall⟩ := doAll_withSelectors (decodeCycle s.nextWord) filt cal s.beginCycle
  have hend : doAll (decodeCycle (s.withSelectors filt cal).nextWord) (s.withSelectors filt cal).beginCycle =
      (doAll (decodeCycle s.nextWord) s.beginCycle).withSelectors filt' cal' := hall
  exact hend ▸ rfl

end Sys2Proof.Machine
end

section
/-! PROOFS. What no operation writes (20_memory.md R53), and the output `echo` of a cycle (20_memory.md R42). -/

namespace Sys2Proof

/-- ECHO is the operation of the two newline bytes and of no other (30_encoding.md R64). -/
theorem decodeCommand_eq_echo_iff (b : Byte) :
    decodeCommand b = .echoLf ∨ decodeCommand b = .echoCr ↔ b = 0x0A#8 ∨ b = 0x0D#8 := by
  have hbyte := encodeCommand_decodeCommand b
  constructor
  · rintro (hlf | hcr)
    · rw [hlf] at hbyte
      exact .inl (Option.some.inj hbyte).symm
    · rw [hcr] at hbyte
      exact .inr (Option.some.inj hbyte).symm
  · rintro (rfl | rfl)
    · exact .inl (by decide)
    · exact .inr (by decide)

namespace Machine

variable {s t : State}

/-! ### The parameters and the model's own fields -/

theorem doAll_cycle (is : List Instr) (s : State) : (doAll is s).cycle = s.cycle := by
  induction is generalizing s with
  | nil => rfl
  | cons i is ih => rw [doAll, ih, (doOp_model_fields s i).2.2]

/-- Settles O6: `doOp_model_fields` for one operation, and its lift to the operations of a cycle, which starts by taking a word and counting. -/
theorem tablesAreNeverWritten : Obligations.TablesAreNeverWritten := by
  refine ⟨fun i s t hexec => ?_, fun s t hstep => ?_⟩
  · rw [exec_eq_perform, perform_next_iff] at hexec
    obtain ⟨-, rfl⟩ := hexec
    exact doOp_model_fields s i
  · obtain ⟨-, rfl⟩ := step_next_iff.mp hstep
    exact ⟨doAll_cfg _ _, doAll_input _ _, doAll_cycle _ _⟩

/-! ### The output `echo` -/

@[simp] theorem doTick_echo (s : State) : (doTick s).echo = s.echo := by
  rcases doTick_cases s with hinside | hboundary
  · rw [hinside, State.setTick_echo]
  · rw [hboundary, doFinalize_eq, State.setTick_echo]

@[simp] theorem afterEvent_echo (w : StimWord) (s : State) : (afterEvent w s).echo = s.echo := by
  obtain ⟨_, _, _, hevent⟩ := afterEvent_eq w s
  rw [hevent]

/-- Every command sets `echo`, and only ECHO sets it to 1 (42_control.md R120, R125). -/
theorem doOp_command_echo {i : Instr} (hi : i.isCommand = true) (s : State) :
    (doOp i s).echo = true ↔ i = .echoLf ∨ i = .echoCr := by
  cases i with
  | echoLf | echoCr | cycleCal _ | toggleHold _ | cycleFilt _ | cyclePsc _ | cmdNop _ =>
    simp [doOp, doEcho, withoutEcho]
  | reset | idle | evt | tick | count | ovf | setcnt _ | finalize => contradiction

theorem doCommandOf_echo (w : StimWord) (hecho : s.echo = false) :
    (doCommandOf w s).echo = true ↔ Stim.cv w = true ∧ (Stim.cb w = 0x0A#8 ∨ Stim.cb w = 0x0D#8) := by
  unfold doCommandOf
  cases Stim.cv w with
  | false => simp [hecho]
  | true => simp [doOp_command_echo (decodeCommand_isCommand _), decodeCommand_eq_echo_iff]

/-- After a step, on a listed word or a free one, `echo` is 1 exactly when the word performs ECHO (30_encoding.md R61, R62). -/
theorem step_echo (hstep : step s = .next t) :
    t.echo = true ↔ Stim.rst s.nextWord = false ∧ Stim.cv s.nextWord = true ∧
      (Stim.cb s.nextWord = 0x0A#8 ∨ Stim.cb s.nextWord = 0x0D#8) := by
  obtain ⟨-, rfl⟩ := step_next_iff.mp hstep
  cases hrst : Stim.rst s.nextWord with
  | true => simp [doAll_decodeCycle_rst _ hrst, doReset]
  | false =>
    rw [doAll_decodeCycle_eq _ hrst rfl, doCommandOf_echo _ (by split <;> simp)]
    simp

/-- Settles O37: `step_echo`, with the listed word as the next one. -/
theorem echoPulsesAfterANewlineCycleOnly : Obligations.EchoPulsesAfterANewlineCycleOnly := by
  intro s t w ws hinput hstep
  have hword : s.nextWord = w := by rw [State.nextWord, hinput]
  exact hword ▸ step_echo hstep

end Machine

end Sys2Proof
end

section
/-! PROOFS. The encoding both ways: an operation and its word, a cycle and its word (30_encoding.md R61 to R66, section 4). -/

namespace Sys2Proof

/-! ### One operation -/

/-- The lemmas of Sys2Proof/Laws/PerInstr.lean together. -/
theorem Laws.Encoding.statement (i : Instr) : Laws.Encoding.Statement i := by
  cases i with
  | reset => exact Laws.Encoding.reset
  | idle => exact Laws.Encoding.idle
  | evt => exact Laws.Encoding.evt
  | tick => exact Laws.Encoding.tick
  | cycleCal lower => exact Laws.Encoding.cycleCal lower
  | toggleHold lower => exact Laws.Encoding.toggleHold lower
  | cycleFilt lower => exact Laws.Encoding.cycleFilt lower
  | cyclePsc lower => exact Laws.Encoding.cyclePsc lower
  | echoLf => exact Laws.Encoding.echoLf
  | echoCr => exact Laws.Encoding.echoCr
  | cmdNop b => exact Laws.Encoding.cmdNop b
  | count => exact Laws.Encoding.count
  | ovf => exact Laws.Encoding.ovf
  | setcnt v => exact Laws.Encoding.setcnt v
  | finalize => exact Laws.Encoding.finalize

/-- Settles O51: a micro-operation has no word, and every other operation has one, which decodes to it alone. -/
theorem encodedOperationDecodesToItself : Obligations.EncodedOperationDecodesToItself := by
  intro c i hwf
  rcases Laws.Encoding.statement i c hwf with ⟨hmicro, hnone⟩ | ⟨hmicro, word, hword, hdecode⟩
  · simp [hmicro, hnone]
  · simp [hmicro, hword, hdecode]

/-! ### Commands and their bytes -/

variable {c : Config} {i : Instr}

theorem isMicro_of_isCommand (hi : i.isCommand = true) : i.isMicro = false := by
  cases i with
  | cycleCal _ | toggleHold _ | cycleFilt _ | cyclePsc _ | echoLf | echoCr | cmdNop _ => rfl
  | reset | idle | evt | tick | count | ovf | setcnt _ | finalize => contradiction

/-- A command operation has a byte, and its word is that byte's (30_encoding.md R64). -/
theorem encode_of_isCommand (hi : i.isCommand = true) :
    ∃ b, encodeCommand i = some b ∧ encode i = some (commandWord b) := by
  cases i with
  | cycleCal _ | toggleHold _ | cycleFilt _ | cyclePsc _ | echoLf | echoCr | cmdNop _ => exact ⟨_, rfl, rfl⟩
  | reset | idle | evt | tick | count | ovf | setcnt _ | finalize => contradiction

/-- The word of a byte's operation is the byte's word. -/
theorem encode_decodeCommand (b : Byte) : encode (decodeCommand b) = some (commandWord b) := by
  obtain ⟨b', hbyte, hword⟩ := encode_of_isCommand (decodeCommand_isCommand b)
  rw [encodeCommand_decodeCommand b] at hbyte
  exact Option.some.inj hbyte ▸ hword

/-- A well-formed command operation is the one of some byte. -/
theorem exists_decodeCommand_eq (hi : i.isCommand = true) (hwf : wellFormed c i = true) :
    ∃ b, decodeCommand b = i := by
  obtain ⟨b, -, hb⟩ := encode_of_isCommand hi
  rcases Laws.Encoding.statement i c hwf with ⟨-, hnone⟩ | ⟨-, word, hword, hdecode⟩
  · simp [hb] at hnone
  · obtain rfl : commandWord b = word := Option.some.inj (hb.symm.trans hword)
    exact ⟨b, by simpa [decodeCycle_commandWord] using hdecode⟩

/-- The decoder gives CMD_NOP only the bytes of no other row, in every configuration (30_encoding.md R64). -/
theorem wellFormed_decodeCommand (c : Config) (b : Byte) : wellFormed c (decodeCommand b) = true := by
  have hcommand := decodeCommand_isCommand b
  cases hi : decodeCommand b with
  | cycleCal _ | toggleHold _ | cycleFilt _ | cyclePsc _ | echoLf | echoCr => rfl
  | cmdNop b' =>
    have haction : ∀ a ∈ actionBytes, decodeCommand a ≠ .cmdNop a := by decide
    have hbyte := encodeCommand_decodeCommand b
    rw [hi] at hbyte
    obtain rfl : b' = b := Option.some.inj hbyte
    exact decide_eq_true fun hmem => haction b' hmem hi
  | reset | idle | evt | tick | count | ovf | setcnt _ | finalize => simp [hi, Instr.isCommand] at hcommand

/-! ### The fields of a word -/

/-- Each field is a piece of the word, so a union of words is the union of their fields. -/
theorem fields_or (v w : StimWord) :
    Stim.rst (v ||| w) = (Stim.rst v || Stim.rst w) ∧ Stim.evt (v ||| w) = (Stim.evt v || Stim.evt w) ∧
    Stim.tick (v ||| w) = (Stim.tick v || Stim.tick w) ∧ Stim.cv (v ||| w) = (Stim.cv v || Stim.cv w) ∧
    Stim.cb (v ||| w) = Stim.cb v ||| Stim.cb w :=
  ⟨BitVec.getLsbD_or, BitVec.getLsbD_or, BitVec.getLsbD_or, BitVec.getLsbD_or, BitVec.extractLsb'_or⟩

/-- The mask of bits 11:8 keeps the four strobes and clears `cb`. -/
theorem fields_strobeMask (w : StimWord) :
    Stim.rst (w &&& 0xF00#12) = Stim.rst w ∧ Stim.evt (w &&& 0xF00#12) = Stim.evt w ∧
    Stim.tick (w &&& 0xF00#12) = Stim.tick w ∧ Stim.cv (w &&& 0xF00#12) = Stim.cv w ∧
    Stim.cb (w &&& 0xF00#12) = 0#8 := by
  have hcb : Stim.cb (w &&& 0xF00#12) = Stim.cb w &&& 0#8 := BitVec.extractLsb'_and
  simp [hcb, Stim.rst, Stim.evt, Stim.tick, Stim.cv]

/-- The five fields are all twelve bits of a word (30_encoding.md R60). -/
theorem word_eq_of_fields_eq {v w : StimWord} (hrst : Stim.rst v = Stim.rst w) (hevt : Stim.evt v = Stim.evt w)
    (htick : Stim.tick v = Stim.tick w) (hcv : Stim.cv v = Stim.cv w) (hcb : Stim.cb v = Stim.cb w) : v = w := by
  refine BitVec.eq_of_getLsbD_eq fun i hi => ?_
  have hbit := congrArg (BitVec.getLsbD · i) hcb
  simp only [Stim.cb, BitVec.getLsbD_extractLsb', Nat.zero_add] at hbit
  obtain hlow | rfl | rfl | rfl | rfl : i < 8 ∨ i = 8 ∨ i = 9 ∨ i = 10 ∨ i = 11 := by omega
  · simpa [hlow] using hbit
  · exact hcv
  · exact htick
  · exact hevt
  · exact hrst

/-! ### One cycle: its strobes and its command byte -/

/-- The operations of a cycle without reset: EVT, TICK and the byte's command, each if given, and IDLE if none is (30_encoding.md R61). -/
def cycleOps (evt tick : Bool) (cmd : Option Byte) : List Instr :=
  if evt || tick || cmd.isSome then
    (if evt then [.evt] else []) ++ (if tick then [.tick] else []) ++ (cmd.map decodeCommand).toList
  else [.idle]

/-- The command byte a word presents: `cb` while `cv` is 1 (30_encoding.md R66). -/
def commandByte (w : StimWord) : Option Byte := if Stim.cv w then some (Stim.cb w) else none

/-- Without `rst`, a word stands for the cycle of its strobes and its command byte. -/
theorem decodeCycle_of_rst_false {w : StimWord} (hrst : Stim.rst w = false) :
    decodeCycle w = cycleOps (Stim.evt w) (Stim.tick w) (commandByte w) := by
  cases hcv : Stim.cv w <;> simp [decodeCycle, cycleOps, commandByte, hrst, hcv]

/-- The fields of a cycle's word are what it was made from, `cb` being 0 without a command (30_encoding.md R60, R66). -/
theorem fields_cycleWord (evt tick : Bool) (cmd : Option Byte) :
    Stim.rst (cycleWord evt tick cmd) = false ∧ Stim.evt (cycleWord evt tick cmd) = evt ∧
    Stim.tick (cycleWord evt tick cmd) = tick ∧ Stim.cv (cycleWord evt tick cmd) = cmd.isSome ∧
    Stim.cb (cycleWord evt tick cmd) = cmd.getD 0#8 := by
  have hstrobes : Stim.rst (cycleWord evt tick none) = false ∧ Stim.evt (cycleWord evt tick none) = evt ∧
      Stim.tick (cycleWord evt tick none) = tick ∧ Stim.cv (cycleWord evt tick none) = false ∧
      Stim.cb (cycleWord evt tick none) = 0#8 := by
    cases evt <;> cases tick <;> decide
  cases cmd with
  | none => exact hstrobes
  | some b =>
    have hword : cycleWord evt tick (some b) = cycleWord evt tick none ||| commandWord b := by simp [cycleWord]
    rw [hword]
    simp [fields_or, hstrobes, fields_commandWord]

theorem decodeCycle_cycleWord (evt tick : Bool) (cmd : Option Byte) :
    decodeCycle (cycleWord evt tick cmd) = cycleOps evt tick cmd := by
  obtain ⟨hrst, hevt, htick, hcv, hcb⟩ := fields_cycleWord evt tick cmd
  have hcmd : commandByte (cycleWord evt tick cmd) = cmd := by
    rw [commandByte, hcv, hcb]
    cases cmd <;> rfl
  rw [decodeCycle_of_rst_false hrst, hevt, htick, hcmd]

theorem cycleShape_cycleOps (evt tick : Bool) (cmd : Option Byte) : cycleShape (cycleOps evt tick cmd) = true := by
  cases cmd with
  | none => cases evt <;> cases tick <;> rfl
  | some b =>
    have hcommand := decodeCommand_isCommand b
    have hmicro := isMicro_of_isCommand hcommand
    cases evt <;> cases tick <;> simp [cycleOps, cycleShape, hcommand, hmicro]

theorem encodeCycle_cycleOps (evt tick : Bool) (cmd : Option Byte) :
    encodeCycle (cycleOps evt tick cmd) = some (cycleWord evt tick cmd) := by
  rw [encodeCycle, if_pos (cycleShape_cycleOps evt tick cmd)]
  cases cmd with
  | none => cases evt <;> cases tick <;> rfl
  | some b =>
    have hevt : encode .evt = some 0x400#12 := rfl
    have htick : encode .tick = some 0x200#12 := rfl
    cases evt <;> cases tick <;>
      simp [cycleOps, cycleWord, encodeAll, encode_decodeCommand, hevt, htick, ← BitVec.or_assoc]

theorem wellFormedCycle_cycleOps (c : Config) (evt tick : Bool) (cmd : Option Byte) :
    wellFormedCycle c (cycleOps evt tick cmd) = true := by
  rw [wellFormedCycle, cycleShape_cycleOps, Bool.true_and]
  cases cmd with
  | none => cases evt <;> cases tick <;> rfl
  | some b =>
    have hevt : wellFormed c .evt = true := rfl
    have htick : wellFormed c .tick = true := rfl
    cases evt <;> cases tick <;> simp [cycleOps, wellFormed_decodeCommand, hevt, htick]

/-- A well-formed cycle is RESET alone, or the cycle of some strobes and command byte (30_encoding.md R61). -/
theorem wellFormedCycle_cases {is : List Instr} (h : wellFormedCycle c is = true) :
    is = [.reset] ∨ ∃ evt tick cmd, is = cycleOps evt tick cmd := by
  obtain ⟨hshape, hwf⟩ := Bool.and_eq_true_iff.mp h
  have hbyte {i : Instr} (hmem : i ∈ is) (hi : i.isCommand = true) : ∃ b, decodeCommand b = i :=
    exists_decodeCommand_eq hi (List.all_eq_true.mp hwf i hmem)
  clear h hwf
  unfold cycleShape at hshape
  split at hshape
  case h_1 i =>
    cases i with
    | reset => exact .inl rfl
    | idle => exact .inr ⟨false, false, none, rfl⟩
    | evt => exact .inr ⟨true, false, none, rfl⟩
    | tick => exact .inr ⟨false, true, none, rfl⟩
    | count | ovf | setcnt _ | finalize => contradiction
    | cycleCal _ | toggleHold _ | cycleFilt _ | cyclePsc _ | echoLf | echoCr | cmdNop _ =>
      obtain ⟨b, hb⟩ := hbyte (List.mem_singleton_self _) rfl
      exact .inr ⟨false, false, some b, by simp [cycleOps, hb]⟩
  case h_2 i =>
    rcases Bool.or_eq_true_iff.mp hshape with htick | hcommand
    · exact .inr ⟨true, true, none, by simp [cycleOps, eq_of_beq htick]⟩
    · obtain ⟨b, hb⟩ := hbyte (by simp) hcommand
      exact .inr ⟨true, false, some b, by simp [cycleOps, hb]⟩
  case h_3 i =>
    obtain ⟨b, hb⟩ := hbyte (by simp) hshape
    exact .inr ⟨false, true, some b, by simp [cycleOps, hb]⟩
  case h_4 i =>
    obtain ⟨b, hb⟩ := hbyte (by simp) hshape
    exact .inr ⟨true, true, some b, by simp [cycleOps, hb]⟩
  case h_5 => contradiction

/-- The word made from a word's own fields is that word without its ignored bits (30_encoding.md R62, R66). -/
theorem cycleWord_fields {w : StimWord} (hrst : Stim.rst w = false) :
    cycleWord (Stim.evt w) (Stim.tick w) (commandByte w) = if Stim.cv w then w else w &&& 0xF00#12 := by
  cases hcv : Stim.cv w with
  | true => apply word_eq_of_fields_eq <;> simp [fields_cycleWord, commandByte, hrst, hcv]
  | false => apply word_eq_of_fields_eq <;> simp [fields_cycleWord, fields_strobeMask, commandByte, hrst, hcv]

/-- Settles O52: RESET's word by computation, any other cycle's from its strobes and command byte. -/
theorem encodedCycleDecodesToItself : Obligations.EncodedCycleDecodesToItself := by
  intro c is hwf
  rcases wellFormedCycle_cases hwf with rfl | ⟨evt, tick, cmd, rfl⟩
  · exact ⟨0x800#12, rfl, rfl⟩
  · exact ⟨_, encodeCycle_cycleOps evt tick cmd, decodeCycle_cycleWord evt tick cmd⟩

theorem decodeCycle_of_rst {w : StimWord} (hrst : Stim.rst w = true) : decodeCycle w = [.reset] := by
  simp [decodeCycle, hrst]

/-- Settles O53: a word with `rst` stands for RESET, and any other for the cycle of its fields. -/
theorem everyWordStandsForOneCycle : Obligations.EveryWordStandsForOneCycle := by
  intro c w
  have hspelling : (if w.getLsbD 11 then 0x800#12 else if w.getLsbD 8 then w else w &&& 0xF00#12) =
      if Stim.rst w then 0x800#12 else if Stim.cv w then w else w &&& 0xF00#12 := rfl
  rw [hspelling]
  cases hrst : Stim.rst w with
  | true =>
    rw [decodeCycle_of_rst hrst]
    exact ⟨rfl, rfl⟩
  | false =>
    rw [decodeCycle_of_rst_false hrst, encodeCycle_cycleOps, cycleWord_fields hrst]
    exact ⟨wellFormedCycle_cycleOps _ _ _ _, rfl⟩

end Sys2Proof
end

section
/-! PROOFS. The step and its word: order, reset, ignored bits, presented words and the `WINDOW` trace (30_encoding.md R61 to R67). -/

namespace Sys2Proof

/-! ### Decoding without a step -/

/-- Settles O47: a finite fact about 256 bytes. -/
theorem commandMapOfAllBytes : Obligations.CommandMapOfAllBytes := by
  unfold Obligations.CommandMapOfAllBytes
  decide

/-- Settles O50: each conjunct is closed. -/
theorem writtenOutWordsDecode : Obligations.WrittenOutWordsDecode := by
  unfold Obligations.WrittenOutWordsDecode
  decide

/-- With `cv` = 0 the decoder reads the strobes alone (30_encoding.md R66). -/
theorem decodeCycle_strobeMask {w : StimWord} (hcv : Stim.cv w = false) :
    decodeCycle (w &&& 0xF00#12) = decodeCycle w := by
  simp [decodeCycle, fields_strobeMask, hcv]

namespace Machine

variable {s : State}

/-! ### Operations one after another -/

@[simp] theorem andThen_next_right (o : Host.Outcome State Fault Refusal) : andThen o .next = o := by
  cases o <;> rfl

theorem execAll_singleton (i : Instr) (s : State) : execAll [i] s = exec i s := andThen_next_right _

theorem execAll_append (is js : List Instr) (s : State) :
    execAll (is ++ js) s = andThen (execAll is s) (execAll js) := by
  induction is generalizing s with
  | nil => rfl
  | cons i is ih =>
    rw [List.cons_append, execAll, execAll]
    cases exec i s with
    | next t => exact ih t
    | fault _ | refused _ => rfl

/-- An operation whose strobe is set, and nothing otherwise. -/
theorem execAll_ite (p : Bool) (i : Instr) :
    execAll (if p then [i] else []) = fun s => if p then exec i s else .next s := by
  funext s
  cases p with
  | true => exact execAll_singleton i s
  | false => rfl

/-- A cycle without any strobe performs IDLE, which only clears `echo`: it is already 0 then (43_snapshot.md R143). -/
theorem exec_idle_of_no_echo (hvalid : s.cfg.valid = true) (hecho : s.echo = false) : exec .idle s = .next s := by
  rw [exec_eq_perform, perform_of_valid hvalid, doOp, doIdle, ← hecho]
  rfl

/-- The operations of a cycle without reset, each behind its strobe (30_encoding.md R61). -/
theorem execAll_decodeCycle {w : StimWord} (hrst : Stim.rst w = false) (hvalid : s.cfg.valid = true)
    (hecho : s.echo = false) :
    execAll (decodeCycle w) s =
      andThen
        (andThen (if Stim.evt w then exec .evt s else .next s) (fun a => if Stim.tick w then exec .tick a else .next a))
        (fun b => if Stim.cv w then exec (decodeCommand (Stim.cb w)) b else .next b) := by
  rw [decodeCycle, if_neg (ne_true_of_eq_false hrst)]
  split
  next =>
    rw [execAll_append, execAll_append, execAll_ite, execAll_ite, execAll_ite]
  next hstrobes =>
    obtain ⟨⟨hevt, htick⟩, hcv⟩ : (Stim.evt w = false ∧ Stim.tick w = false) ∧ Stim.cv w = false := by
      simpa using hstrobes
    simp [hevt, htick, hcv, execAll_singleton, exec_idle_of_no_echo hvalid hecho]

/-! ### A step on a listed word -/

theorem beginCycle_of_input {w : StimWord} {ws : List StimWord} (hinput : s.input = w :: ws) :
    s.beginCycle = { s with echo := false, input := ws, cycle := s.cycle + 1 } := by
  simp [State.beginCycle, hinput]

/-- Settles O42: a step takes the word and runs its operations; a list of one operation runs as that operation. -/
theorem stepRunsTheDecodedOperations : Obligations.StepRunsTheDecodedOperations := by
  intro s w ws hinput
  have hstep : step s = execAll (decodeCycle w) { s with echo := false, input := ws, cycle := s.cycle + 1 } := by
    rw [step_of_input hinput, runWord, beginCycle_of_input hinput]
  refine ⟨hstep, fun i _ hdecode => ?_⟩
  rw [hstep, hdecode, execAll_singleton]

/-- Settles O41: the decoded operations, RESET's alone or each behind its strobe. -/
theorem stepPerformsEvtThenTickThenCommand : Obligations.StepPerformsEvtThenTickThenCommand := by
  intro s w ws hvalid hinput
  rw [(stepRunsTheDecodedOperations s w ws hinput).1]
  cases hrst : Stim.rst w with
  | true =>
    rw [decodeCycle_of_rst hrst, execAll_singleton]
    exact (if_pos hrst).symm
  | false =>
    have hbegun :=
      execAll_decodeCycle (s := { s with echo := false, input := ws, cycle := s.cycle + 1 }) hrst hvalid rfl
    exact hbegun.trans (if_neg (ne_true_of_eq_false hrst)).symm

/-- Settles O3: the step is RESET alone (O41), which zeroes every register. -/
theorem resetDominatesTheCycle : Obligations.ResetDominatesTheCycle := by
  intro s w ws hvalid hinput hrst
  rw [stepPerformsEvtThenTickThenCommand s w ws hvalid hinput, if_pos hrst, exec_eq_perform]
  exact perform_of_valid hvalid

/-- Settles O45: both words have the operations of their common strobes. -/
theorem byteWithoutCommandStrobeIsIgnored : Obligations.ByteWithoutCommandStrobeIsIgnored := by
  intro s w w' ws hcv hmask
  obtain ⟨-, -, -, hkeep, -⟩ := fields_strobeMask w
  obtain ⟨-, -, -, hkeep', -⟩ := fields_strobeMask w'
  have hcv' : Stim.cv w' = false := by
    rw [← hkeep', ← hmask, hkeep]
    exact hcv
  have hdecode : decodeCycle w = decodeCycle w' := by
    rw [← decodeCycle_strobeMask hcv, hmask, decodeCycle_strobeMask hcv']
  rw [step_of_input (s := s.withInput (w :: ws)) rfl, step_of_input (s := s.withInput (w' :: ws)) rfl, runWord,
    runWord, hdecode]
  rfl

/-- Settles O43: the presented number fits its bits, and its word heads the input list (`stepRunsTheDecodedOperations`). -/
theorem presentedWordRunsNext : Obligations.PresentedWordRunsNext := by
  intro s i w nbits hvalid hfits hdecode
  have hmod : w % 2 ^ nbits = w := Nat.mod_eq_of_lt hfits
  have hcycle : decodeCycle (BitVec.ofNat 12 w) = [i] := by
    unfold decodeBits at hdecode
    split at hdecode
    · exact Except.ok.inj hdecode
    · contradiction
  refine ⟨by rw [decodeTableWord, hmod, hdecode], ?_⟩
  have hplaced : s.withFetchWord nbits w = s.placeWord (BitVec.ofNat 12 w) := by
    rw [State.withFetchWord, presentBits, hmod]
  rw [hplaced]
  exact (stepRunsTheDecodedOperations _ _ s.input rfl).2 i hvalid hcycle

/-! ### EVT and TICK -/

/-- EVT neither reads nor writes TICK (40_counting.md R86). -/
theorem doEvt_with_tick (tick : Nat) (s : State) : doEvt { s with tick := tick } = { doEvt s with tick := tick } := by
  rw [doEvt_eq, doEvt_eq, doCount_eq, doCount_eq]
  rfl

/-- Settles O46: inside a window TICK writes the tick counter alone, which EVT neither reads nor writes. -/
theorem evtAndInnerTickCommute : Obligations.EvtAndInnerTickCommute := by
  intro s hinside
  cases hvalid : s.cfg.valid with
  | false => simp [exec_eq_perform, perform_of_invalid hvalid]
  | true =>
    obtain ⟨-, -, -, -, hwidth, -⟩ := Config.valid_iff.mp hvalid
    obtain ⟨hcfg, htick⟩ : (doEvt s).cfg = s.cfg ∧ (doEvt s).tick = s.tick := by simp [doEvt_eq]
    have hcommute : doTick (doEvt s) = doEvt (doTick s) := by
      have hafterEvt := doTick_of_inside (doEvt s) (by rwa [hcfg, htick]) (by rwa [hcfg])
      rw [htick] at hafterEvt
      rw [doTick_of_inside s hinside hwidth]
      exact hafterEvt.trans (doEvt_with_tick _ s).symm
    have htickCfg : (doTick s).cfg = s.cfg := doOp_cfg s .tick
    simp [exec_eq_perform, perform_of_valid, hvalid, doOp, hcfg, htickCfg, hcommute]

/-! ### The trace `WINDOW` -/

/-- A cycle with TICK alone. -/
theorem afterWord_tick (s : State) :
    afterWord s 0x200#12 = doTick { s with cycle := s.cycle + 1, echo := false } := by
  have hdecode : decodeCycle 0x200#12 = [.tick] := by decide
  rw [afterWord, hdecode]
  rfl

/-- A tick word inside a window counts in TICK alone (41_window.md R100). -/
theorem afterWord_tick_of_inside (hvalid : s.cfg.valid = true) (hinside : s.tick + 1 < s.cfg.windowTicks) :
    afterWord s 0x200#12 = { s with tick := s.tick + 1, cycle := s.cycle + 1, echo := false } := by
  obtain ⟨-, -, -, -, hwidth, -⟩ := Config.valid_iff.mp hvalid
  rw [afterWord_tick]
  exact doTick_of_inside { s with cycle := s.cycle + 1, echo := false } hinside hwidth

/-- A tick word that reaches the boundary has the net effect of FINALIZE (41_window.md R106). -/
theorem afterWord_tick_of_boundary {e : Nat} (hvalid : s.cfg.valid = true) (he : s.cfg.pscExp[s.pscIdx]? = some e)
    (hboundary : s.tick + 1 = s.cfg.windowTicks) :
    afterWord s 0x200#12 =
      { s with
        wf := if s.hold then s.wf else ((s.roc + s.cnt) * 2 ^ e) % 2 ^ s.cfg.wfWidth
        valid := if s.hold then s.valid else s.valid || s.warm
        cnt := 0, roc := 0, tick := 0, warm := true, wtog := !s.wtog, cycle := s.cycle + 1, echo := false } := by
  obtain ⟨-, -, -, -, hwidth, -⟩ := Config.valid_iff.mp hvalid
  have hcount : scaledCount s = ((s.roc + s.cnt) * 2 ^ e) % 2 ^ s.cfg.wfWidth := by
    rw [scaledCount_eq hvalid, exponent_of_getElem? he]
  have hraised : validAfterCapture s = (s.valid || s.warm) := by
    unfold validAfterCapture
    cases s.warm <;> simp
  rw [afterWord_tick, ← hcount, ← hraised]
  exact (doTick_of_boundary { s with cycle := s.cycle + 1, echo := false } hboundary hwidth).trans (doFinalize_eq _)

/-- Any number of tick words that reach no boundary. -/
theorem foldl_afterWord_ticks_inside (n : Nat) (hvalid : s.cfg.valid = true) (hinside : s.tick + n < s.cfg.windowTicks) :
    ∃ echo, (List.replicate n 0x200#12).foldl afterWord s =
      { s with tick := s.tick + n, cycle := s.cycle + n, echo := echo } := by
  induction n with
  | zero => exact ⟨s.echo, rfl⟩
  | succ n ih =>
    obtain ⟨echo, hticks⟩ := ih (by omega)
    refine ⟨false, ?_⟩
    rw [List.replicate_succ', List.foldl_concat, hticks]
    exact afterWord_tick_of_inside hvalid hinside

/-- Settles O23: all tick words but the last stay inside the window, and the last is its boundary. -/
theorem windowTraceEndsOnABoundary : Obligations.WindowTraceEndsOnABoundary := by
  intro s e hinv he htick
  obtain ⟨hvalid, -⟩ := hinv
  obtain ⟨-, -, -, hpos, -⟩ := Config.valid_iff.mp hvalid
  obtain ⟨n, hn⟩ : ∃ n, s.cfg.windowTicks = n + 1 := Nat.exists_eq_succ_of_ne_zero (by omega)
  have hlast : s.tick + n + 1 = s.cfg.windowTicks := by omega
  obtain ⟨echo, hticks⟩ := foldl_afterWord_ticks_inside (s := s) n hvalid (by omega)
  have hboundary := afterWord_tick_of_boundary
    (s := { s with tick := s.tick + n, cycle := s.cycle + n, echo := echo }) hvalid he hlast
  rw [runWords_eq_foldl _ hvalid, TraceItem.words, hn, List.replicate_succ', List.foldl_concat, hticks, hboundary]
  rfl

end Machine

end Sys2Proof
end

section
/-! PROOFS. The counting family: one operation, any number of them, and what the family neither reads nor writes (40_counting.md R80 to R86). -/

namespace Sys2Proof.Machine

variable {s : State}

/-! ### One operation -/

/-- COUNT with CNT in range needs no reduction: below MAXV the next value is in range. -/
theorem doCount_of_lt_range (hcnt : s.cnt < s.cfg.range) :
    doCount s =
      if s.cnt = s.cfg.range - 1 then { s with cnt := 0, roc := (s.roc + s.cfg.range) % 2 ^ s.cfg.rocWidth }
      else { s with cnt := s.cnt + 1 } := by
  split
  · exact doCount_of_maxv s ‹_›
  · have hnext : s.cnt + 1 < s.cfg.range := by omega
    rw [doCount_of_ne_maxv s ‹_›, Nat.mod_eq_of_lt hnext]

/-- EVT with PRES inside its group needs no reduction: 2^e fits PRES (00_scope.md R4). -/
theorem doEvt_of_residue (hfits : exponent s ≤ s.cfg.presWidth) (hpres : s.ResidueInGroup) :
    doEvt s =
      if s.pres = 2 ^ exponent s - 1 then doCount { s with pres := 0 } else { s with pres := s.pres + 1 } := by
  have hgroup : s.pres < 2 ^ exponent s := hpres
  have hwidth : 2 ^ exponent s ≤ 2 ^ s.cfg.presWidth := Nat.pow_le_pow_right two_pos hfits
  split
  · exact doEvt_of_group_done s ‹_›
  · have hnext : s.pres + 1 < 2 ^ s.cfg.presWidth := by omega
    rw [doEvt_of_group_open s ‹_›, Nat.mod_eq_of_lt hnext]

/-- The residue counts events modulo the group (40_counting.md R84). -/
theorem doEvt_pres (hs : s.Inv) : (doEvt s).pres = (s.pres + 1) % 2 ^ exponent s := by
  obtain ⟨hvalid, -, -, hpres, ⟨-, hpsc, -⟩, -⟩ := hs
  have hgroup : s.pres < 2 ^ exponent s := hpres
  rw [doEvt_of_residue (exponent_le hvalid hpsc).1 hpres]
  split
  · have hfull : s.pres + 1 = 2 ^ exponent s := by omega
    rw [hfull, Nat.mod_self, doCount_eq]
  · have hnext : s.pres + 1 < 2 ^ exponent s := by omega
    exact (Nat.mod_eq_of_lt hnext).symm

/-- COUNT leaves everything but CNT and ROC. -/
theorem doCount_frame (s : State) : doCount s = { s with cnt := (doCount s).cnt, roc := (doCount s).roc } := by
  rw [doCount_eq]

/-- EVT leaves everything but PRES, CNT and ROC. -/
theorem doEvt_frame (s : State) :
    doEvt s = { s with pres := (doEvt s).pres, cnt := (doEvt s).cnt, roc := (doEvt s).roc } := by
  rw [doEvt_eq]

/-- SETCNT leaves everything but CNT and ROC. -/
theorem doSetcnt_frame (v : Nat) (s : State) :
    doSetcnt v s = { s with cnt := (doSetcnt v s).cnt, roc := (doSetcnt v s).roc } := by
  rw [doSetcnt_eq]

/-- Settles O8: `doCount_of_lt_range`, the wrap and its overflow in one update. -/
theorem countWrapsWithOneOverflow : Obligations.CountWrapsWithOneOverflow := by
  intro s hvalid hcnt
  rw [exec_eq_perform, perform_of_valid hvalid, doOp, doCount_of_lt_range hcnt]

/-- Settles O9: RANGE is 2^CNT_WIDTH by definition. -/
theorem overflowAddsTheRange : Obligations.OverflowAddsTheRange := by
  intro s hvalid
  rw [exec_eq_perform, perform_of_valid hvalid, doOp, doOvf_eq, Config.range]

/-- Settles O10: a CNT_WIDTH-bit operand is written unreduced. -/
theorem setcntOverflowsOnlyOnAForcedWrap : Obligations.SetcntOverflowsOnlyOnAForcedWrap := by
  intro s v hvalid hv
  rw [exec_eq_perform, perform_of_valid hvalid, doOp, doSetcnt_eq, Nat.mod_eq_of_lt hv, Config.maxv]

/-- Settles O7: the divider by `doEvt_of_residue`, the count it passes on by `doCount_of_lt_range`. -/
theorem evtPassesOnTheLastEventOfAGroup : Obligations.EvtPassesOnTheLastEventOfAGroup := by
  intro s e hvalid he hpres hcnt
  obtain rfl := exponent_of_getElem? he
  obtain ⟨-, -, -, -, -, -, -, -, hexp⟩ := Config.valid_iff.mp hvalid
  have hfits : exponent s ≤ s.cfg.presWidth := (hexp _ (List.mem_of_getElem? he)).1
  rw [exec_eq_perform, perform_of_valid hvalid, doOp, doEvt_of_residue hfits hpres,
    doCount_of_lt_range (s := { s with pres := 0 }) hcnt]

/-! ### Any number of operations -/

theorem doAll_replicate_succ (n : Nat) (i : Instr) (s : State) :
    doAll (List.replicate (n + 1) i) s = doOp i (doAll (List.replicate n i) s) := by
  rw [List.replicate_succ', doAll_append, doAll, doAll]

theorem execTimes_of_valid (n : Nat) (i : Instr) (hvalid : s.cfg.valid = true) :
    execTimes n i s = .next (doAll (List.replicate n i) s) := execAll_of_valid _ hvalid

/-- ROC is a multiple of RANGE below 2^ROC_WIDTH, itself one, so a whole RANGE still fits above it (10_state.md R26). -/
theorem roc_add_cnt_lt (hs : s.Inv) : s.roc + s.cnt < 2 ^ s.cfg.rocWidth := by
  obtain ⟨hvalid, ⟨hcnt, hroc, -⟩, haligned, -⟩ := hs
  have hroom : s.roc + s.cfg.range ≤ 2 ^ s.cfg.rocWidth := by
    obtain ⟨q, hq⟩ := Nat.dvd_of_mod_eq_zero haligned
    obtain ⟨m, hm⟩ := Config.range_dvd hvalid
    rw [hq, hm] at hroc ⊢
    exact Nat.mul_le_mul_left _ (Nat.lt_of_mul_lt_mul_left hroc)
  omega

/-- After any operations the extended count is below 2^ROC_WIDTH, so a congruence determines it. -/
theorem doAll_sum_eq_mod {is : List Instr} {k : Nat} (hs : s.Inv)
    (hsum : (doAll is s).roc + (doAll is s).cnt ≡ k [MOD 2 ^ s.cfg.rocWidth]) :
    (doAll is s).roc + (doAll is s).cnt = k % 2 ^ s.cfg.rocWidth := by
  have hbound := roc_add_cnt_lt (inv_doAll is hs)
  rw [doAll_cfg] at hbound
  exact (Nat.mod_eq_of_lt hbound).symm.trans hsum

/-- ROC and CNT are the quotient and the remainder of the extended count by RANGE. -/
theorem roc_cnt_eq_div_mod (hs : s.Inv) :
    s.roc = s.cfg.range * ((s.roc + s.cnt) / s.cfg.range) ∧ s.cnt = (s.roc + s.cnt) % s.cfg.range := by
  obtain ⟨-, ⟨hcnt, -⟩, haligned, -⟩ := hs
  obtain ⟨q, hq⟩ := Nat.dvd_of_mod_eq_zero haligned
  rw [hq, Nat.mul_add_div s.cfg.range_pos, Nat.mul_add_mod, Nat.div_eq_of_lt hcnt, Nat.mod_eq_of_lt hcnt]
  exact ⟨rfl, rfl⟩

theorem counts_frame (n : Nat) (s : State) :
    doAll (List.replicate n .count) s =
      { s with
        cnt := (doAll (List.replicate n .count) s).cnt
        roc := (doAll (List.replicate n .count) s).roc } := by
  induction n with
  | zero => rfl
  | succ n ih =>
    rw [doAll_replicate_succ, doOp, doCount_frame, ih]

/-- Every COUNT of n adds one to the extended count. -/
theorem counts_sum_modEq (n : Nat) (hs : s.Inv) :
    (doAll (List.replicate n .count) s).roc + (doAll (List.replicate n .count) s).cnt ≡
      s.roc + s.cnt + n [MOD 2 ^ s.cfg.rocWidth] := by
  induction n with
  | zero => exact Nat.ModEq.refl _
  | succ n ih =>
    obtain ⟨-, ⟨hcnt, -⟩, -⟩ := inv_doAll (List.replicate n .count) hs
    have hlast := doCount_sum_modEq hcnt
    rw [doAll_cfg] at hlast
    rw [doAll_replicate_succ]
    exact hlast.trans (ih.add_right 1)

/-- Settles O11: the sum by `counts_sum_modEq`, its two parts by `roc_cnt_eq_div_mod`. -/
theorem countingLaw : Obligations.CountingLaw := by
  intro n s hs
  have htotal := doAll_sum_eq_mod hs (counts_sum_modEq n hs)
  have hparts := roc_cnt_eq_div_mod (inv_doAll (List.replicate n .count) hs)
  rw [doAll_cfg] at hparts
  refine ⟨_, execTimes_of_valid n .count hs.1, counts_frame n s, htotal, fun hcnt hroc hn => ?_⟩
  rwa [htotal, hcnt, hroc, Nat.zero_add, Nat.mod_eq_of_lt hn] at hparts

theorem events_frame (n : Nat) (s : State) :
    doAll (List.replicate n .evt) s =
      { s with
        pres := (doAll (List.replicate n .evt) s).pres
        cnt := (doAll (List.replicate n .evt) s).cnt
        roc := (doAll (List.replicate n .evt) s).roc } := by
  induction n with
  | zero => rfl
  | succ n ih =>
    rw [doAll_replicate_succ, doOp, doEvt_frame, ih]

/-- Events leave the prescaler setting, so the group they count in stays the same. -/
theorem events_exponent (n : Nat) (s : State) : exponent (doAll (List.replicate n .evt) s) = exponent s := by
  rw [events_frame]
  rfl

/-- The remainder of the events stays in PRES. -/
theorem events_pres (n : Nat) (hs : s.Inv) :
    (doAll (List.replicate n .evt) s).pres = (s.pres + n) % 2 ^ exponent s := by
  induction n with
  | zero =>
    obtain ⟨-, -, -, hpres, -⟩ := hs
    exact (Nat.mod_eq_of_lt hpres).symm
  | succ n ih =>
    rw [doAll_replicate_succ, doOp, doEvt_pres (inv_doAll _ hs), events_exponent, ih, Nat.mod_add_mod, Nat.add_assoc]

/-- One more event adds one to the quotient exactly when it fills the group. -/
theorem add_one_div_eq (a b : Nat) (hb : 0 < b) : (a + 1) / b = a / b + if a % b + 1 = b then 1 else 0 := by
  obtain ⟨c, rfl⟩ := Nat.exists_eq_succ_of_ne_zero hb.ne'
  simp [Nat.succ_div, Nat.dvd_iff_mod_eq_zero, Nat.succ_mod_succ_eq_zero_iff]

/-- The quotient of the events is counted. -/
theorem events_sum_modEq (n : Nat) (hs : s.Inv) :
    (doAll (List.replicate n .evt) s).roc + (doAll (List.replicate n .evt) s).cnt ≡
      s.roc + s.cnt + (s.pres + n) / 2 ^ exponent s [MOD 2 ^ s.cfg.rocWidth] := by
  induction n with
  | zero =>
    obtain ⟨-, -, -, hpres, -⟩ := hs
    rw [Nat.add_zero, Nat.div_eq_of_lt hpres]
    exact Nat.ModEq.refl _
  | succ n ih =>
    obtain ⟨-, ⟨hcnt, -⟩, -⟩ := inv_doAll (List.replicate n .evt) hs
    have hlast := doEvt_sum_modEq hcnt
    rw [doAll_cfg, events_exponent, events_pres n hs] at hlast
    rw [doAll_replicate_succ, ← Nat.add_assoc s.pres, add_one_div_eq _ _ (Nat.two_pow_pos _), ← Nat.add_assoc]
    exact hlast.trans (ih.add_right _)

/-- Settles O12: remainder and quotient by `events_pres` and `events_sum_modEq`. -/
theorem dividerLaw : Obligations.DividerLaw := by
  intro n s e hs he
  obtain rfl := exponent_of_getElem? he
  exact ⟨_, execTimes_of_valid n .evt hs.1, events_frame n s, events_pres n hs,
    doAll_sum_eq_mod hs (events_sum_modEq n hs)⟩

/-! ### What the family neither reads nor writes -/

/-- The state with other values in the eight registers the counting family does not read (40_counting.md R86). -/
def State.withUncounted (wf tick filt cal : Nat) (hold warm valid wtog : Bool) (s : State) : State :=
  { s with wf := wf, tick := tick, filtIdx := filt, calIdx := cal, hold := hold, warm := warm,
           valid := valid, wtog := wtog }

/-- Each operation of the family is an update of CNT, ROC and PRES by values read from these, PSC_IDX and the parameters. -/
theorem doOp_withUncounted {i : Instr} (hi : i = .evt ∨ i = .count ∨ i = .ovf ∨ ∃ v, i = .setcnt v)
    (wf tick filt cal : Nat) (hold warm valid wtog : Bool) (s : State) :
    doOp i (s.withUncounted wf tick filt cal hold warm valid wtog) =
      (doOp i s).withUncounted wf tick filt cal hold warm valid wtog := by
  rcases hi with rfl | rfl | rfl | ⟨v, rfl⟩
  · simp only [doOp, doEvt_eq, doCount_eq]
    rfl
  · simp only [doOp, doCount_eq]
    rfl
  · rfl
  · simp only [doOp, doSetcnt_eq]
    rfl

theorem doOp_counting_frame {i : Instr} (hi : i = .evt ∨ i = .count ∨ i = .ovf ∨ ∃ v, i = .setcnt v) (s : State) :
    doOp i s = { s with cnt := (doOp i s).cnt, roc := (doOp i s).roc, pres := (doOp i s).pres } ∧
    (i ≠ .evt → (doOp i s).pres = s.pres) := by
  rcases hi with rfl | rfl | rfl | ⟨v, rfl⟩
  · exact ⟨doEvt_frame s, fun h => absurd rfl h⟩
  · rw [doOp, doCount_frame]
    exact ⟨rfl, fun _ => rfl⟩
  · exact ⟨rfl, fun _ => rfl⟩
  · rw [doOp, doSetcnt_frame]
    exact ⟨rfl, fun _ => rfl⟩

/-- Settles O13: the frame and the independence of the operation, carried to its meaning. -/
theorem countingFamilyFrame : Obligations.CountingFamilyFrame := by
  intro i s t hi hexec
  rw [exec_eq_perform, perform_next_iff] at hexec
  obtain ⟨hvalid, rfl⟩ := hexec
  obtain ⟨hframe, hpres⟩ := doOp_counting_frame hi s
  refine ⟨hframe, hpres, fun wf tick filt cal hold warm valid wtog => ?_⟩
  rw [exec_eq_perform]
  exact perform_next_iff.mpr ⟨hvalid, doOp_withUncounted hi wf tick filt cal hold warm valid wtog s⟩

end Sys2Proof.Machine
end

section
/-! PROOFS. The window family: TICK, and FINALIZE with its five steps (41_window.md R100 to R106, R109). -/

namespace Sys2Proof

/-- RANGE is at least 2, so MAXV is not the 0 that raises an overflow (00_scope.md R4). -/
theorem Config.maxv_ne_zero {c : Config} (hvalid : c.valid = true) : c.maxv ≠ 0 := by
  obtain ⟨hwidth, -⟩ := Config.valid_iff.mp hvalid
  have hrange : 2 ^ 1 ≤ c.range := Nat.pow_le_pow_right two_pos hwidth
  have hmaxv := c.maxv_add_one
  omega

namespace Machine

variable {s : State}

/-! ### FINALIZE and its steps -/

/-- In a legal configuration an operation answers its next state. -/
theorem exec_of_valid (i : Instr) (hvalid : s.cfg.valid = true) : exec i s = .next (doOp i s) := by
  rw [exec_eq_perform, perform_of_valid hvalid]

theorem validAfterCapture_eq (s : State) : validAfterCapture s = (s.valid || s.warm) := by
  unfold validAfterCapture
  cases s.warm <;> simp

/-- The net effect of FINALIZE with the table entry written out (41_window.md R106). -/
theorem doFinalize_of_entry {e : Nat} (hvalid : s.cfg.valid = true) (he : s.cfg.pscExp[s.pscIdx]? = some e) :
    doFinalize s =
      { s with
        wf := if s.hold then s.wf else ((s.roc + s.cnt) * 2 ^ e) % 2 ^ s.cfg.wfWidth
        valid := if s.hold then s.valid else s.valid || s.warm
        cnt := 0, roc := 0, tick := 0, warm := true, wtog := !s.wtog } := by
  rw [doFinalize_eq, scaledCount_eq hvalid, exponent_of_getElem? he, validAfterCapture_eq]

/-- F1 with the table entry written out (41_window.md R102). -/
theorem finalizeF1_of_entry {e : Nat} (he : s.cfg.pscExp[s.pscIdx]? = some e) :
    finalizeF1 s =
      if s.hold then s
      else
        { s with
          wf := (((s.roc + s.cnt) % 2 ^ s.cfg.rocWidth) * 2 ^ e) % 2 ^ s.cfg.wfWidth
          valid := if s.warm then true else s.valid } := by
  have hscaled : scaledCount s = (((s.roc + s.cnt) % 2 ^ s.cfg.rocWidth) * 2 ^ e) % 2 ^ s.cfg.wfWidth := by
    rw [scaledCount, extendedCount, Nat.shiftLeft_eq, exponent_of_getElem? he]
  have hreduced : scaledCount s % 2 ^ s.cfg.wfWidth = scaledCount s := Nat.mod_mod _ _
  rw [← hscaled, ← hreduced]
  rfl

@[simp] theorem finalizeF1_cfg (s : State) : (finalizeF1 s).cfg = s.cfg := by
  unfold finalizeF1
  split <;> rfl

@[simp] theorem finalizeF2a_cfg (s : State) : (finalizeF2a s).cfg = s.cfg := doOp_cfg s (.setcnt s.cfg.maxv)

/-- F3 and F4 together: the writes of FINALIZE that depend on no count (41_window.md R104, R105). -/
theorem finalizeF4_finalizeF3 (s : State) :
    finalizeF4 (finalizeF3 s) = { s with roc := 0, warm := true, wtog := !s.wtog, tick := 0 } := by
  simp [finalizeF4, finalizeF3, State.setRoc, State.setWarm, State.setWtog, State.setTick, toggledWtog]

/-- F2a: a write of MAXV changes CNT alone (41_window.md R103). -/
theorem doSetcnt_maxv (hvalid : s.cfg.valid = true) : doSetcnt s.cfg.maxv s = { s with cnt := s.cfg.maxv } := by
  rw [doSetcnt_eq, if_neg fun h => Config.maxv_ne_zero hvalid h.2, Nat.mod_eq_of_lt s.cfg.maxv_lt_range]

/-- F2b: the write of 0 over MAXV overflows once (41_window.md R103). -/
theorem doSetcnt_zero_of_maxv (hmax : s.cnt = s.cfg.maxv) :
    doSetcnt 0 s = { s with cnt := 0, roc := (s.roc + s.cfg.range) % 2 ^ s.cfg.rocWidth } := by
  rw [doSetcnt_eq, if_pos ⟨hmax, rfl⟩, Nat.zero_mod]

/-- Settles O16: `doFinalize_of_entry`. -/
theorem finalizeNetEffect : Obligations.FinalizeNetEffect := by
  intro s e hvalid he
  rw [exec_of_valid _ hvalid, doOp, doFinalize_of_entry hvalid he]

/-- Settles O17: the 0 is written over the MAXV that `doSetcnt_maxv` leaves. -/
theorem forcedResetRaisesExactlyOneOverflow : Obligations.ForcedResetRaisesExactlyOneOverflow := by
  intro s hvalid
  have hmaxv : exec (.setcnt s.cfg.maxv) s = .next { s with cnt := s.cfg.maxv } := by
    rw [exec_of_valid _ hvalid, doOp, doSetcnt_maxv hvalid]
  refine ⟨hmaxv, ?_⟩
  rw [hmaxv, andThen_next, exec_of_valid (s := { s with cnt := s.cfg.maxv }) _ hvalid, doOp,
    doSetcnt_zero_of_maxv rfl]

/-- Settles O15: F1 is `finalizeF1_of_entry`, F2a and F2b are the two SETCNT, the rest is `finalizeF4_finalizeF3`. -/
theorem finalizeRunsItsFiveSteps : Obligations.FinalizeRunsItsFiveSteps := by
  intro s e hvalid he
  have hvalid1 : (finalizeF1 s).cfg.valid = true := by rwa [finalizeF1_cfg]
  have hvalid2 : (finalizeF2a (finalizeF1 s)).cfg.valid = true := by rwa [finalizeF2a_cfg]
  have hF2a : exec (.setcnt (s.cfg.range - 1)) (finalizeF1 s) = .next (finalizeF2a (finalizeF1 s)) := by
    rw [exec_of_valid _ hvalid1, doOp, finalizeF2a, finalizeF1_cfg, Config.maxv]
  have hF2b : exec (.setcnt 0) (finalizeF2a (finalizeF1 s)) = .next (finalizeF2b (finalizeF2a (finalizeF1 s))) :=
    exec_of_valid _ hvalid2
  rw [← finalizeF1_of_entry he, hF2a, andThen_next, hF2b, andThen_next, ← finalizeF4_finalizeF3]
  exact exec_of_valid _ hvalid

/-- Settles O18: the low part is CNT because ROC is a multiple of RANGE, and `roc_add_cnt_lt` is the bound. -/
theorem extendedCountIsAConcatenation : Obligations.ExtendedCountIsAConcatenation := by
  intro s hs
  have hbound := roc_add_cnt_lt hs
  obtain ⟨hroc, hcnt⟩ := roc_cnt_eq_div_mod hs
  refine ⟨hcnt.symm, ?_, hbound, Nat.mod_eq_of_lt hbound⟩
  exact (Nat.div_eq_of_eq_mul_right s.cfg.range_pos hroc).symm

/-- Settles O14: `doTick_of_inside` and `doTick_of_boundary`; FINALIZE does not read TICK. -/
theorem tickCountsAndFinalizesAtTheBoundary : Obligations.TickCountsAndFinalizesAtTheBoundary := by
  intro s hvalid _
  obtain ⟨-, -, -, -, hwidth, -⟩ := Config.valid_iff.mp hvalid
  rw [exec_of_valid _ hvalid, doOp]
  refine ⟨fun hinside => by rw [doTick_of_inside s hinside hwidth], fun hboundary => ?_⟩
  have hunread : doFinalize { s with tick := s.cfg.windowTicks } = doFinalize s := by
    rw [doFinalize_eq, doFinalize_eq]
    rfl
  rw [doTick_of_boundary s hboundary hwidth, exec_of_valid (s := { s with tick := s.cfg.windowTicks }) _ hvalid, doOp,
    hunread]
  exact ⟨rfl, _, rfl, by rw [doFinalize_eq]⟩

end Machine

end Sys2Proof
end

section
/-! PROOFS. Runs of words over windows: what hold freezes, and what a whole window captures (41_window.md R107, R108). -/

namespace Sys2Proof.Machine

variable {s : State}

/-! ### The command of a cycle -/

/-- A command writes the control registers, PRES and `echo` at most (42_control.md R128); HOLD is TOGGLE_HOLD's alone, PSC_IDX and PRES are CYCLE_PSC's alone. -/
theorem doOp_command_frame {i : Instr} (hi : i.isCommand = true) (s : State) :
    (∃ hold filt psc cal pres echo, doOp i s =
      { s with hold := hold, filtIdx := filt, pscIdx := psc, calIdx := cal, pres := pres, echo := echo }) ∧
    (i.opName ≠ .toggleHold → (doOp i s).hold = s.hold) ∧
    (i.opName ≠ .cyclePsc → (doOp i s).pscIdx = s.pscIdx ∧ (doOp i s).pres = s.pres) := by
  cases i with
  | toggleHold _ => exact ⟨⟨_, _, _, _, _, _, rfl⟩, fun h => absurd rfl h, fun _ => ⟨rfl, rfl⟩⟩
  | cyclePsc _ => exact ⟨⟨_, _, _, _, _, _, rfl⟩, fun _ => rfl, fun h => absurd rfl h⟩
  | cycleCal _ | cycleFilt _ | echoLf | echoCr | cmdNop _ =>
    exact ⟨⟨_, _, _, _, _, _, rfl⟩, fun _ => rfl, fun _ => ⟨rfl, rfl⟩⟩
  | reset | idle | evt | tick | count | ovf | setcnt _ | finalize => contradiction

/-- The same of the command a word without reset causes, if any. -/
theorem doCommandOf_frame {w : StimWord} (hrst : Stim.rst w = false) (s : State) :
    (∃ hold filt psc cal pres echo, doCommandOf w s =
      { s with hold := hold, filtIdx := filt, pscIdx := psc, calIdx := cal, pres := pres, echo := echo }) ∧
    (commands w .toggleHold = false → (doCommandOf w s).hold = s.hold) ∧
    (commands w .cyclePsc = false → (doCommandOf w s).pscIdx = s.pscIdx ∧ (doCommandOf w s).pres = s.pres) := by
  unfold doCommandOf
  cases hcv : Stim.cv w with
  | false => exact ⟨⟨_, _, _, _, _, _, rfl⟩, fun _ => rfl, fun _ => ⟨rfl, rfl⟩⟩
  | true =>
    have hname (op : OpName) (hno : commands w op = false) : (decodeCommand (Stim.cb w)).opName ≠ op := by
      simpa [commands, hrst, hcv] using hno
    obtain ⟨hframe, hhold, hpsc⟩ := doOp_command_frame (decodeCommand_isCommand (Stim.cb w)) s
    exact ⟨hframe, fun h => hhold (hname _ h), fun h => hpsc (hname _ h)⟩

/-! ### The three parts of a cycle -/

/-- The state the TICK of a cycle meets: the cycle has begun and its event is counted (30_encoding.md R61). -/
def eventPhase (w : StimWord) (s : State) : State := afterEvent w { s with cycle := s.cycle + 1, echo := false }

/-- The state the command of a cycle meets: its tick is counted too, with the boundary it may be. -/
def tickPhase (w : StimWord) (s : State) : State :=
  if Stim.tick w then doTick (eventPhase w s) else eventPhase w s

/-- A cycle without reset: EVT, then TICK, then the command (30_encoding.md R61). -/
theorem afterWord_eq {w : StimWord} (hrst : Stim.rst w = false) (s : State) :
    afterWord s w = doCommandOf w (tickPhase w s) :=
  doAll_decodeCycle_eq w hrst rfl

/-- The state with other values in the fields a window's inner words write beside the counters of EVT. -/
def State.withInner (tick : Nat) (hold : Bool) (filt cal : Nat) (echo : Bool) (cycle : Nat) (s : State) : State :=
  { s with tick := tick, hold := hold, filtIdx := filt, calIdx := cal, echo := echo, cycle := cycle }

/-- EVT neither reads nor writes any of them (40_counting.md R86). -/
theorem afterEvent_withInner (w : StimWord) (tick : Nat) (hold : Bool) (filt cal : Nat) (echo : Bool) (cycle : Nat)
    (s : State) :
    afterEvent w (s.withInner tick hold filt cal echo cycle) =
      (afterEvent w s).withInner tick hold filt cal echo cycle := by
  unfold afterEvent
  split
  · rw [doEvt_eq, doEvt_eq, doCount_eq, doCount_eq]
    rfl
  · rfl

/-- The capture reads none of them (41_window.md R102). -/
theorem scaledCount_withInner (tick : Nat) (hold : Bool) (filt cal : Nat) (echo : Bool) (cycle : Nat) (s : State) :
    scaledCount (s.withInner tick hold filt cal echo cycle) = scaledCount s := rfl

/-- The start of a cycle is its own bookkeeping, which EVT does not read. -/
theorem eventPhase_eq (w : StimWord) (s : State) :
    eventPhase w s = (afterEvent w s).withInner s.tick s.hold s.filtIdx s.calIdx false (s.cycle + 1) :=
  afterEvent_withInner w s.tick s.hold s.filtIdx s.calIdx false (s.cycle + 1) s

/-- What the TICK of a cycle finds: EVT leaves everything but PRES, CNT and ROC. -/
theorem eventPhase_frame (w : StimWord) (s : State) :
    ∃ pres cnt roc, eventPhase w s =
      { s with pres := pres, cnt := cnt, roc := roc, cycle := s.cycle + 1, echo := false } := by
  obtain ⟨pres, cnt, roc, hevent⟩ := afterEvent_eq w s
  exact ⟨pres, cnt, roc, by rw [eventPhase_eq, hevent]; rfl⟩

/-- Inside a window the TICK of a cycle, if any, is counted. -/
theorem tickPhase_of_inside {w : StimWord} (hvalid : s.cfg.valid = true)
    (hinside : s.tick + (if Stim.tick w then 1 else 0) < s.cfg.windowTicks) :
    tickPhase w s =
      (afterEvent w s).withInner (s.tick + if Stim.tick w then 1 else 0) s.hold s.filtIdx s.calIdx false
        (s.cycle + 1) := by
  unfold tickPhase
  split at hinside
  next htick =>
    obtain ⟨-, -, -, -, hwidth, -⟩ := Config.valid_iff.mp hvalid
    obtain ⟨_, _, _, hevent⟩ := afterEvent_eq w s
    rw [if_pos htick, if_pos htick, eventPhase_eq, hevent]
    exact doTick_of_inside _ hinside hwidth
  next htick =>
    rw [if_neg htick, if_neg htick, eventPhase_eq]
    rfl

/-- A command that leaves the prescaler setting stays within `withInner`. -/
theorem doCommandOf_withInner {w : StimWord} (hrst : Stim.rst w = false) (hpsc : commands w .cyclePsc = false)
    (s : State) : ∃ hold filt cal echo, doCommandOf w s = s.withInner s.tick hold filt cal echo s.cycle := by
  obtain ⟨⟨hold, filt, psc, cal, pres, echo, hframe⟩, -, hkeep⟩ := doCommandOf_frame hrst s
  obtain ⟨hpscIdx, hpres⟩ := hkeep hpsc
  rw [hframe] at hpscIdx hpres
  obtain rfl : psc = s.pscIdx := hpscIdx
  obtain rfl : pres = s.pres := hpres
  exact ⟨hold, filt, cal, echo, hframe⟩

/-! ### Hold over any number of windows -/

/-- Under hold TICK leaves the snapshot, at a boundary too (41_window.md R102). -/
theorem doTick_of_hold (hhold : s.hold = true) :
    (doTick s).wf = s.wf ∧ (doTick s).valid = s.valid ∧ (doTick s).hold = true := by
  rcases doTick_cases s with hinside | hboundary
  · rw [hinside]
    exact ⟨rfl, rfl, hhold⟩
  · rw [hboundary, doFinalize_eq, State.setTick_hold, hhold]
    exact ⟨rfl, rfl, rfl⟩

/-- A cycle under hold that neither resets nor releases leaves the snapshot and hold. -/
theorem afterWord_of_hold {w : StimWord} (hhold : s.hold = true) (hrst : Stim.rst w = false)
    (hkeep : commands w .toggleHold = false) :
    (afterWord s w).wf = s.wf ∧ (afterWord s w).valid = s.valid ∧ (afterWord s w).hold = true := by
  obtain ⟨pres, cnt, roc, hevent⟩ := eventPhase_frame w s
  obtain ⟨hwf, hvalid⟩ := doCommandOf_snapshot w (tickPhase w s)
  obtain ⟨-, hheld, -⟩ := doCommandOf_frame hrst (tickPhase w s)
  rw [afterWord_eq hrst, hwf, hvalid, hheld hkeep, tickPhase, hevent]
  split
  · exact doTick_of_hold hhold
  · exact ⟨rfl, rfl, hhold⟩

theorem foldl_afterWord_of_hold (ws : List StimWord) (hhold : s.hold = true)
    (hws : ∀ w ∈ ws, Stim.rst w = false ∧ commands w .toggleHold = false) :
    (ws.foldl afterWord s).wf = s.wf ∧ (ws.foldl afterWord s).valid = s.valid ∧
      (ws.foldl afterWord s).hold = true := by
  induction ws generalizing s with
  | nil => exact ⟨rfl, rfl, hhold⟩
  | cons w ws ih =>
    obtain ⟨⟨hrst, hkeep⟩, hrest⟩ := List.forall_mem_cons.mp hws
    obtain ⟨hwf, hvalid, hhold'⟩ := afterWord_of_hold hhold hrst hkeep
    rw [List.foldl_cons, ← hwf, ← hvalid]
    exact ih hhold' hrest

/-- Settles O20: `foldl_afterWord_of_hold`, word by word. -/
theorem holdFreezesTheSnapshot : Obligations.HoldFreezesTheSnapshot := by
  intro ws s hvalid hhold hws
  exact ⟨_, runWords_eq_foldl ws hvalid, foldl_afterWord_of_hold ws hhold hws⟩

/-! ### One window -/

/-- The events of a window, one more word. -/
theorem afterEvent_events (w : StimWord) (n : Nat) (s : State) :
    afterEvent w (doAll (List.replicate n .evt) s) =
      doAll (List.replicate (n + if Stim.evt w then 1 else 0) .evt) s := by
  unfold afterEvent
  split
  · rw [doAll_replicate_succ, doOp]
  · rfl

theorem evtCount_concat {w : StimWord} (hrst : Stim.rst w = false) (ws : List StimWord) :
    evtCount (ws ++ [w]) = evtCount ws + if Stim.evt w then 1 else 0 := by
  simp [evtCount, hrst, List.countP_singleton]

theorem tickCount_concat {w : StimWord} (hrst : Stim.rst w = false) (ws : List StimWord) :
    tickCount (ws ++ [w]) = tickCount ws + if Stim.tick w then 1 else 0 := by
  simp [tickCount, hrst, List.countP_singleton]

/-- A cycle inside a window counts its event and its tick, and nothing else that a boundary reads but HOLD. -/
theorem afterWord_of_inside {w : StimWord} (hvalid : s.cfg.valid = true) (hrst : Stim.rst w = false)
    (hpsc : commands w .cyclePsc = false) (hinside : s.tick + (if Stim.tick w then 1 else 0) < s.cfg.windowTicks) :
    ∃ hold filt cal echo, afterWord s w =
      (afterEvent w s).withInner (s.tick + if Stim.tick w then 1 else 0) hold filt cal echo (s.cycle + 1) := by
  rw [afterWord_eq hrst, tickPhase_of_inside hvalid hinside]
  exact doCommandOf_withInner hrst hpsc _

/-- Inside a window the words count their events and their ticks. -/
theorem foldl_afterWord_of_inside (ws : List StimWord) (hvalid : s.cfg.valid = true)
    (hws : ∀ w ∈ ws, Stim.rst w = false ∧ commands w .cyclePsc = false)
    (hinside : s.tick + tickCount ws < s.cfg.windowTicks) :
    ∃ hold filt cal echo, ws.foldl afterWord s =
      (doAll (List.replicate (evtCount ws) .evt) s).withInner (s.tick + tickCount ws) hold filt cal echo
        (s.cycle + ws.length) := by
  induction ws using List.reverseRecOn with
  | nil => exact ⟨s.hold, s.filtIdx, s.calIdx, s.echo, rfl⟩
  | append_singleton ws w ih =>
    obtain ⟨hrst, hpsc⟩ := hws w (by simp)
    rw [tickCount_concat hrst, ← Nat.add_assoc] at hinside ⊢
    obtain ⟨hold, filt, cal, echo, hbefore⟩ := ih (fun v hv => hws v (by simp [hv])) (by omega)
    set m := (doAll (List.replicate (evtCount ws) .evt) s).withInner (s.tick + tickCount ws) hold filt cal echo
      (s.cycle + ws.length) with hm
    have hcfg : m.cfg = s.cfg := doAll_cfg _ _
    obtain ⟨hold', filt', cal', echo', hword⟩ :=
      afterWord_of_inside (s := m) (by rwa [hcfg]) hrst hpsc (by rw [hcfg]; exact hinside)
    refine ⟨hold', filt', cal', echo', ?_⟩
    rw [List.foldl_concat, hbefore, hword, hm, afterEvent_withInner, afterEvent_events, evtCount_concat hrst,
      List.length_append]
    rfl

/-- The boundary cycle captures the count with its own event, unless held, and starts the next window from zero (41_window.md R106). -/
theorem afterWord_of_boundary {w : StimWord} (hvalid : s.cfg.valid = true) (hrst : Stim.rst w = false)
    (htick : Stim.tick w = true) (hboundary : s.tick + 1 = s.cfg.windowTicks) :
    (s.hold = false → (afterWord s w).wf = scaledCount (afterEvent w s)) ∧
    (s.hold = true → (afterWord s w).wf = s.wf ∧ (afterWord s w).valid = s.valid) ∧
    (afterWord s w).cnt = 0 ∧ (afterWord s w).roc = 0 ∧ (afterWord s w).tick = 0 ∧ (afterWord s w).warm = true ∧
      (afterWord s w).wtog = !s.wtog := by
  obtain ⟨-, -, -, -, hwidth, -⟩ := Config.valid_iff.mp hvalid
  obtain ⟨pres, cnt, roc, hevent⟩ := eventPhase_frame w s
  have hcount : scaledCount (eventPhase w s) = scaledCount (afterEvent w s) := by
    rw [eventPhase_eq, scaledCount_withInner]
  have hfinal : doTick (eventPhase w s) = doFinalize (eventPhase w s) := by
    rw [hevent]
    exact doTick_of_boundary _ hboundary hwidth
  obtain ⟨⟨_, _, _, _, _, _, hcommand⟩, -⟩ := doCommandOf_frame hrst (doFinalize (eventPhase w s))
  rw [afterWord_eq hrst, tickPhase, if_pos htick, hfinal, hcommand, doFinalize_eq, hcount, hevent]
  refine ⟨fun hhold => if_neg (ne_true_of_eq_false hhold), fun hhold => ⟨if_pos hhold, if_pos hhold⟩, rfl, rfl, rfl,
    rfl, rfl⟩

/-- What a boundary captures after any number of events: the whole groups among them, times 2^e (40_counting.md R84, 41_window.md R102). -/
theorem scaledCount_events (n : Nat) (hs : s.Inv) :
    scaledCount (doAll (List.replicate n .evt) s) =
      ((s.roc + s.cnt + (s.pres + n) / 2 ^ exponent s) * 2 ^ exponent s) % 2 ^ s.cfg.wfWidth := by
  have hvalid : s.cfg.valid = true := hs.1
  have hsum := events_sum_modEq n hs
  rw [Config.roc_eq_wf hvalid] at hsum
  rw [scaledCount_eq (by rwa [doAll_cfg]), doAll_cfg, events_exponent]
  exact hsum.mul_right _

/-- Settles O19: the inner words by `foldl_afterWord_of_inside`, the boundary word by `afterWord_of_boundary`; between them they perform as many EVT as the run has events, whose count `scaledCount_events` gives. -/
theorem windowLaw : Obligations.WindowLaw := by
  intro s e ws last hs he hcnt hroc htick hws hticks hrst hlast
  obtain rfl := exponent_of_getElem? he
  have hvalid : s.cfg.valid = true := hs.1
  obtain ⟨hold, filt, cal, echo, hinner⟩ := foldl_afterWord_of_inside ws hvalid hws (by omega)
  have hcfg : (ws.foldl afterWord s).cfg = s.cfg := by
    rw [hinner]
    exact doAll_cfg _ _
  have hboundary : (ws.foldl afterWord s).tick + 1 = s.cfg.windowTicks := by
    have hticked : (ws.foldl afterWord s).tick = s.tick + tickCount ws := by
      rw [hinner]
      rfl
    omega
  obtain ⟨hwf, hvalidFlag, hwtog⟩ : (ws.foldl afterWord s).wf = s.wf ∧ (ws.foldl afterWord s).valid = s.valid ∧
      (ws.foldl afterWord s).wtog = s.wtog := by
    rw [hinner, events_frame]
    exact ⟨rfl, rfl, rfl⟩
  have hcount : scaledCount (afterEvent last (ws.foldl afterWord s)) =
      ((s.pres + evtCount (ws ++ [last])) / 2 ^ exponent s * 2 ^ exponent s) % 2 ^ s.cfg.wfWidth := by
    have hevents := scaledCount_events (evtCount (ws ++ [last])) hs
    rw [hroc, hcnt, Nat.add_zero, Nat.zero_add] at hevents
    rw [← hevents, evtCount_concat hrst, ← afterEvent_events, hinner, afterEvent_withInner,
      scaledCount_withInner]
  have hend := afterWord_of_boundary (s := ws.foldl afterWord s) (w := last) (by rwa [hcfg]) hrst hlast (by rwa [hcfg])
  rw [hcount, hwf, hvalidFlag, hwtog] at hend
  refine ⟨_, _, runWords_eq_foldl ws hvalid, runWords_eq_foldl (ws ++ [last]) hvalid, ?_⟩
  rw [List.foldl_concat]
  exact hend

end Sys2Proof.Machine
end

section
/-! PROOFS. The control family: what each command writes, the dispatch of every byte, and cycling a selector through its table (42_control.md R120 to R128). -/

namespace Sys2Proof.Machine

variable {s : State} {i : Instr}

/-! ### One command -/

theorem doOp_toggleHold (lower : Bool) (s : State) :
    doOp (.toggleHold lower) s = { s with hold := !s.hold, echo := false } := rfl

theorem doOp_cycleFilt (lower : Bool) (s : State) :
    doOp (.cycleFilt lower) s = { s with filtIdx := (s.filtIdx + 1) % s.cfg.filtLen, echo := false } := rfl

theorem doOp_cycleCal (lower : Bool) (s : State) :
    doOp (.cycleCal lower) s = { s with calIdx := (s.calIdx + 1) % s.cfg.calLen, echo := false } := rfl

/-- The cleared residue fits PRES at any width. -/
theorem doOp_cyclePsc (lower : Bool) (s : State) :
    doOp (.cyclePsc lower) s =
      { s with pscIdx := (s.pscIdx + 1) % s.cfg.pscExp.length, pres := 0, echo := false } := by
  simp [doOp, withoutEcho, doCyclePsc, State.setPscIdx, State.setPres, State.setEcho, Config.pscLen]

theorem doOp_echoLf (s : State) : doOp .echoLf s = { s with echo := true } := rfl

theorem doOp_echoCr (s : State) : doOp .echoCr s = { s with echo := true } := rfl

theorem doOp_cmdNop (b : Byte) (s : State) : doOp (.cmdNop b) s = { s with echo := false } := rfl

/-- Settles O24: `doOp_toggleHold` in a legal configuration. -/
theorem toggleHoldComplementsHold : Obligations.ToggleHoldComplementsHold := by
  intro s lower hvalid
  rw [exec_of_valid _ hvalid, doOp_toggleHold]

/-- Settles O25: `doOp_cycleFilt` in a legal configuration. -/
theorem cycleFiltAdvancesTheFilterIndex : Obligations.CycleFiltAdvancesTheFilterIndex := by
  intro s lower hvalid
  rw [exec_of_valid _ hvalid, doOp_cycleFilt]

/-- Settles O26: `doOp_cyclePsc` in a legal configuration. -/
theorem cyclePscAdvancesTheIndexAndClearsTheResidue : Obligations.CyclePscAdvancesTheIndexAndClearsTheResidue := by
  intro s lower hvalid
  rw [exec_of_valid _ hvalid, doOp_cyclePsc]

/-- Settles O27: `doOp_cycleCal` in a legal configuration. -/
theorem cycleCalAdvancesTheCalibrationIndex : Obligations.CycleCalAdvancesTheCalibrationIndex := by
  intro s lower hvalid
  rw [exec_of_valid _ hvalid, doOp_cycleCal]

/-- Settles O28: the two bytes are decoded by evaluation, and either row performs ECHO. -/
theorem echoChangesNoRegister : Obligations.EchoChangesNoRegister := by
  refine ⟨by decide, by decide, fun s hvalid => ⟨?_, ?_⟩⟩
  · rw [exec_of_valid _ hvalid, doOp_echoLf]
  · rw [exec_of_valid _ hvalid, doOp_echoCr]

/-- Settles O29: the bytes listed are `actionBytes`, outside which `decodeCommand_of_no_action` holds. -/
theorem unknownByteIsIgnored : Obligations.UnknownByteIsIgnored := by
  refine ⟨decodeCommand_of_no_action, fun s b hvalid => ?_⟩
  rw [exec_of_valid _ hvalid, doOp_cmdNop]

/-! ### Every byte and every command -/

/-- Settles O30: the decoder's chain is the one stated, with the two newline bytes apart (`ite_or`), so each branch is one command's own lemma. -/
theorem commandDispatchOfEveryByte : Obligations.CommandDispatchOfEveryByte := by
  intro s b hvalid
  rw [exec_of_valid _ hvalid, ite_or]
  unfold decodeCommand
  dsimp only
  split_ifs with hcal hhold hfilt hpsc hlf hcr
  · rw [doOp_cycleCal]
  · rw [doOp_toggleHold]
  · rw [doOp_cycleFilt]
  · rw [doOp_cyclePsc]
  · rw [doOp_echoLf]
  · rw [doOp_echoCr]
  · rw [doOp_cmdNop]

/-- FILT_IDX is CYCLE_FILT's alone and CAL_IDX is CYCLE_CAL's alone; HOLD, PSC_IDX and PRES are in `doOp_command_frame`. -/
theorem doOp_command_selectors (hi : i.isCommand = true) (s : State) :
    (i.opName ≠ .cycleFilt → (doOp i s).filtIdx = s.filtIdx) ∧
    (i.opName ≠ .cycleCal → (doOp i s).calIdx = s.calIdx) := by
  cases i with
  | cycleFilt _ => exact ⟨fun h => absurd rfl h, fun _ => rfl⟩
  | cycleCal _ => exact ⟨fun _ => rfl, fun h => absurd rfl h⟩
  | toggleHold _ | cyclePsc _ | echoLf | echoCr | cmdNop _ => exact ⟨fun _ => rfl, fun _ => rfl⟩
  | reset | idle | evt | tick | count | ovf | setcnt _ | finalize => contradiction

/-- Settles O31: the measurement registers stand outside `doOp_command_frame`'s update; each control register has one writer. -/
theorem commandsLeaveTheMeasurementAlone : Obligations.CommandsLeaveTheMeasurementAlone := by
  intro i s t hi hexec
  rw [exec_eq_perform, perform_next_iff] at hexec
  obtain ⟨-, rfl⟩ := hexec
  obtain ⟨⟨_, _, _, _, _, _, hframe⟩, hhold, hpsc⟩ := doOp_command_frame hi s
  obtain ⟨hfilt, hcal⟩ := doOp_command_selectors hi s
  refine ⟨?_, ?_, ?_, ?_, ?_, ?_, ?_, fun hname => (hpsc hname).symm, hhold, hfilt, hcal⟩ <;> rw [hframe]

/-! ### Cycling a selector -/

/-- An operation that moves an index on by one modulo `len`, in states `stateAt j` that differ in the index `j` alone, comes back to the index `k` it started from after `len` times. The state before the first one need not be one of them. -/
theorem execTimes_of_cycles {len k : Nat} {stateAt : Nat → State} (hvalid : s.cfg.valid = true) (hk : k < len)
    (hfirst : doOp i s = stateAt ((k + 1) % len)) (hnext : ∀ j, doOp i (stateAt j) = stateAt ((j + 1) % len)) :
    execTimes len i s = .next (stateAt k) := by
  have hafter (n : Nat) : doAll (List.replicate (n + 1) i) s = stateAt ((k + (n + 1)) % len) := by
    induction n with
    | zero => exact hfirst
    | succ n ih => rw [doAll_replicate_succ, ih, hnext, Nat.mod_add_mod, Nat.add_assoc k]
  obtain ⟨n, rfl⟩ := Nat.exists_eq_add_one_of_ne_zero (Nat.ne_zero_of_lt hk)
  rw [execTimes_of_valid _ _ hvalid, hafter, Nat.add_mod_right, Nat.mod_eq_of_lt hk]

/-- Settles O32: `execTimes_of_cycles` for each selector, which is inside its table by the invariants. -/
theorem cyclingLaw : Obligations.CyclingLaw := by
  intro s lower hs
  obtain ⟨hvalid, -, -, -, ⟨hfilt, hpsc, hcal⟩, -⟩ := hs
  refine ⟨?_, ?_, ?_⟩
  · exact execTimes_of_cycles (stateAt := fun j => { s with filtIdx := j, echo := false }) hvalid hfilt
      (doOp_cycleFilt lower s) fun _ => doOp_cycleFilt lower _
  · exact execTimes_of_cycles (stateAt := fun j => { s with calIdx := j, echo := false }) hvalid hcal
      (doOp_cycleCal lower s) fun _ => doOp_cycleCal lower _
  · exact execTimes_of_cycles (stateAt := fun j => { s with pscIdx := j, pres := 0, echo := false }) hvalid hpsc
      (doOp_cyclePsc lower s) fun _ => doOp_cyclePsc lower _

end Sys2Proof.Machine
end

section
/-! PROOFS. The snapshot family: IDLE, the output ports, and what a reader may surface over a run (43_snapshot.md R140 to R143). -/

namespace Sys2Proof.Machine

variable {s : State} {w : StimWord}

/-! ### IDLE and the output ports -/

/-- Settles O34: IDLE writes `echo` alone. -/
theorem idleChangesNoRegister : Obligations.IdleChangesNoRegister := by
  intro s hvalid
  exact exec_of_valid .idle hvalid

/-- A word with no strobe set stands for IDLE, whatever its low byte (30_encoding.md R61). -/
theorem decodeCycle_of_no_strobe (hstrobes : w &&& 0xF00#12 = 0x000#12) : decodeCycle w = [.idle] := by
  obtain ⟨-, -, -, hcv, -⟩ := fields_strobeMask w
  have hnone : Stim.cv w = false := by
    rw [← hcv, hstrobes]
    rfl
  rw [← decodeCycle_strobeMask hnone, hstrobes]
  rfl

/-- Settles O35: the word stands for IDLE alone, and IDLE leaves every register (O34). -/
theorem cycleWithoutStrobeChangesNoRegister : Obligations.CycleWithoutStrobeChangesNoRegister := by
  intro s w ws hvalid hinput hstrobes
  obtain ⟨-, hstep⟩ := stepRunsTheDecodedOperations s w ws hinput
  rw [hstep .idle hvalid (decodeCycle_of_no_strobe hstrobes)]
  exact idleChangesNoRegister { s with echo := false, input := ws, cycle := s.cycle + 1 } hvalid

/-- Settles O36: every port is a register but `psc_exp`, which is the table entry (10_state.md R23). -/
theorem outputsShowTheRegisters : Obligations.OutputsShowTheRegisters := by
  intro s e he
  rw [out, exponent_of_getElem? he]

/-! ### The capture behind a surfaced value -/

theorem inv_afterWord (w : StimWord) (hs : s.Inv) : (afterWord s w).Inv :=
  inv_doAll (s := { s with cycle := s.cycle + 1, echo := false }) (decodeCycle w) hs

theorem inv_foldl_afterWord (ws : List StimWord) (hs : s.Inv) : (ws.foldl afterWord s).Inv := by
  induction ws generalizing s with
  | nil => exact hs
  | cons w ws ih => exact ih (inv_afterWord w hs)

/-- The word is a boundary that closes a window after the first one with hold off: it sets VALID and writes the window's scaled count, its own event included (41_window.md R102, 10_state.md R21). -/
structure WarmCapture (w : StimWord) (s : State) : Prop where
  no_reset : Stim.rst w = false
  has_tick : Stim.tick w = true
  at_boundary : s.tick + 1 = s.cfg.windowTicks
  warm : s.warm = true
  unheld : s.hold = false
  valid : (afterWord s w).valid = true
  count : (afterWord s w).wf =
    ((s.roc + s.cnt + (if Stim.evt w = true ∧ s.pres + 1 = 2 ^ exponent s then 1 else 0)) * 2 ^ exponent s) %
      2 ^ s.cfg.wfWidth

/-- A cycle that ends with VALID = 1 left the snapshot as it was, VALID set already, or it is a warm capture: RESET clears VALID, and a cold boundary does not raise it. -/
theorem afterWord_valid_cases (hs : s.Inv) (hraised : (afterWord s w).valid = true) :
    Stim.rst w = false ∧ ((s.valid = true ∧ (afterWord s w).wf = s.wf) ∨ WarmCapture w s) := by
  obtain ⟨hvalid, ⟨hcnt, -, -, htick⟩, -, -, -, hwarmOfValid, -⟩ := hs
  have hrst : Stim.rst w = false := by
    by_contra hreset
    rw [afterWord, doAll_decodeCycle_rst w (by simpa using hreset)] at hraised
    exact Bool.false_ne_true hraised
  refine ⟨hrst, ?_⟩
  rcases step_snapshot (step_withInput_cons s w [] hvalid) htick hrst with
    ⟨hwf, hkept⟩ | ⟨htickBit, hboundary, hhold, hwf, hflag⟩
  · exact .inl ⟨hkept.symm.trans hraised, hwf⟩
  · have hwarm : s.warm = true := by
      have hor : (s.warm || s.valid) = true := hflag.symm.trans hraised
      exact (Bool.or_eq_true_iff.mp hor).elim id hwarmOfValid
    exact .inr ⟨hrst, htickBit, hboundary, hwarm, hhold, hraised,
      hwf.trans (scaledCount_afterEvent (s := (s.withInput [w]).beginCycle) w hvalid hcnt)⟩

/-- From a state with VALID = 0, a run that ends with VALID = 1 has a last warm capture, and the words after it leave WF as it wrote it. -/
theorem exists_warmCapture (ws : List StimWord) (hs : s.Inv) (hcold : s.valid = false)
    (hraised : (ws.foldl afterWord s).valid = true) :
    ∃ before w after, ws = before ++ w :: after ∧ WarmCapture w (before.foldl afterWord s) ∧
      (∀ x ∈ after, Stim.rst x = false) ∧
      (afterWord (before.foldl afterWord s) w).wf = (ws.foldl afterWord s).wf := by
  induction ws using List.reverseRecOn with
  | nil => exact absurd hraised (ne_true_of_eq_false hcold)
  | append_singleton ws last ih =>
    rw [List.foldl_concat] at hraised ⊢
    obtain ⟨hrst, ⟨hvalid, hwf⟩ | hcapture⟩ := afterWord_valid_cases (inv_foldl_afterWord ws hs) hraised
    · obtain ⟨before, w, after, rfl, hcapture, hafter, hwrote⟩ := ih hvalid
      refine ⟨before, w, after ++ [last], by simp, hcapture, ?_, hwrote.trans hwf.symm⟩
      exact List.forall_mem_append.mpr ⟨hafter, List.forall_mem_singleton.mpr hrst⟩
    · exact ⟨ws, last, [], rfl, hcapture, by simp, rfl⟩

/-- Settles O57: the last warm capture of the run wrote what is surfaced; its exponent is in the table by the invariants. -/
theorem surfacedValueIsALaterWindowsCount : Obligations.SurfacedValueIsALaterWindowsCount := by
  intro ws s t v hs hcold hrun hsurfaced
  have hvalid : s.cfg.valid = true := hs.1
  obtain rfl := Host.Outcome.next.inj ((runWords_eq_foldl ws hvalid).symm.trans hrun)
  obtain ⟨hraised, rfl⟩ := surfaced_out_eq_some.mp hsurfaced
  obtain ⟨before, w, after, rfl, hcapture, hafter, hwrote⟩ := exists_warmCapture ws hs hcold hraised
  obtain ⟨-, -, -, -, ⟨-, hpsc, -⟩, -⟩ := inv_foldl_afterWord before hs
  set m := before.foldl afterWord s
  have hentry : m.cfg.pscExp[m.pscIdx]? = some (exponent m) := by
    rw [exponent, tableRead, List.getElem?_eq_getElem hpsc]
  have hword : runWords (before ++ [w]) s = .next ((afterWord m w).withInput []) := by
    rw [runWords_eq_foldl _ hvalid, List.foldl_concat]
  exact ⟨before, after, w, m.withInput [], (afterWord m w).withInput [], exponent m, rfl,
    runWords_eq_foldl before hvalid, hword, hcapture.no_reset, hcapture.has_tick, hcapture.at_boundary,
    hcapture.warm, hcapture.unheld, hafter, hentry, hcapture.valid, hwrote, hwrote.symm.trans hcapture.count⟩

/-! ### Warm-up: the windows a run has closed -/

theorem foldl_afterWord_cfg (ws : List StimWord) (s : State) : (ws.foldl afterWord s).cfg = s.cfg := by
  induction ws generalizing s with
  | nil => rfl
  | cons w ws ih => rw [List.foldl_cons, ih, afterWord_cfg]

@[simp] theorem doTick_hold (s : State) : (doTick s).hold = s.hold := by
  rcases doTick_cases s with hinside | hboundary
  · rw [hinside, State.setTick_hold]
  · rw [hboundary, doFinalize_eq, State.setTick_hold]

/-- HOLD changes by a command alone (10_state.md R16). -/
theorem afterWord_hold (hrst : Stim.rst w = false) (hkeep : commands w .toggleHold = false) :
    (afterWord s w).hold = s.hold := by
  obtain ⟨-, hhold, -⟩ := doCommandOf_frame hrst (tickPhase w s)
  obtain ⟨pres, cnt, roc, hevent⟩ := eventPhase_frame w s
  rw [afterWord_eq hrst, hhold hkeep, tickPhase, hevent]
  split
  · exact doTick_hold _
  · rfl

/-- A cycle inside a window counts its tick and leaves the status flags. -/
theorem afterWord_status_of_inside (hvalid : s.cfg.valid = true) (hrst : Stim.rst w = false)
    (hinside : s.tick + (if Stim.tick w then 1 else 0) < s.cfg.windowTicks) :
    (afterWord s w).tick = s.tick + (if Stim.tick w then 1 else 0) ∧ (afterWord s w).warm = s.warm ∧
      (afterWord s w).valid = s.valid := by
  obtain ⟨pres, cnt, roc, hevent⟩ := afterEvent_eq w s
  obtain ⟨⟨_, _, _, _, _, _, hcommand⟩, -⟩ := doCommandOf_frame hrst (tickPhase w s)
  rw [afterWord_eq hrst, hcommand, tickPhase_of_inside hvalid hinside, hevent]
  exact ⟨rfl, rfl, rfl⟩

/-- A boundary cycle raises VALID when HOLD is clear and WARM is set (41_window.md R102). -/
theorem afterWord_valid_of_boundary (hvalid : s.cfg.valid = true) (hrst : Stim.rst w = false)
    (htick : Stim.tick w = true) (hboundary : s.tick + 1 = s.cfg.windowTicks) :
    (afterWord s w).valid = (s.valid || (!s.hold && s.warm)) := by
  obtain ⟨-, -, -, -, hwidth, -⟩ := Config.valid_iff.mp hvalid
  obtain ⟨pres, cnt, roc, hevent⟩ := eventPhase_frame w s
  obtain ⟨-, hcommand⟩ := doCommandOf_snapshot w (tickPhase w s)
  have hfinal : doTick (eventPhase w s) = doFinalize (eventPhase w s) := by
    rw [hevent]
    exact doTick_of_boundary _ hboundary hwidth
  rw [afterWord_eq hrst, hcommand, tickPhase, if_pos htick, hfinal, doFinalize_eq, validAfterCapture_eq, hevent]
  cases s.hold <;> simp

/-- After `ticks` ticks and `closed` boundaries since a cold start of a window: WARM is set from the first boundary on, VALID not before the second (43_snapshot.md R142). -/
structure State.AfterWindows (closed ticks : Nat) (s : State) : Prop where
  tick_lt : s.tick < s.cfg.windowTicks
  ticks_eq : ticks = closed * s.cfg.windowTicks + s.tick
  warm_iff : s.warm = true ↔ 1 ≤ closed
  closed_of_valid : s.valid = true → 2 ≤ closed

/-- A cycle without reset closes one more window or none; VALID stays once set, and with hold off it is set from the second boundary on. -/
theorem afterWord_afterWindows {closed ticks : Nat} (hvalid : s.cfg.valid = true) (hrst : Stim.rst w = false)
    (hs : s.AfterWindows closed ticks) :
    ∃ closed', (afterWord s w).AfterWindows closed' (ticks + if Stim.tick w then 1 else 0) ∧
      (s.hold = false → (2 ≤ closed → s.valid = true) → 2 ≤ closed' → (afterWord s w).valid = true) := by
  obtain ⟨hlt, hticks, hwarm, hclosed⟩ := hs
  by_cases hinside : s.tick + (if Stim.tick w then 1 else 0) < s.cfg.windowTicks
  · obtain ⟨htick', hwarm', hvalid'⟩ := afterWord_status_of_inside hvalid hrst hinside
    refine ⟨closed, ⟨?_, ?_, ?_, ?_⟩, fun _ hset => ?_⟩
    · rwa [htick', afterWord_cfg]
    · rw [htick', afterWord_cfg, hticks, Nat.add_assoc]
    · rwa [hwarm']
    · rwa [hvalid']
    · rwa [hvalid']
  · have htick : Stim.tick w = true := by
      by_contra hno
      rw [if_neg hno] at hinside
      exact hinside hlt
    rw [if_pos htick] at hinside ⊢
    have hboundary : s.tick + 1 = s.cfg.windowTicks := by omega
    obtain ⟨-, -, -, -, htick', hwarm', -⟩ := afterWord_of_boundary hvalid hrst htick hboundary
    have hflag := afterWord_valid_of_boundary hvalid hrst htick hboundary
    refine ⟨closed + 1, ⟨?_, ?_, ?_, fun hraised => ?_⟩, fun hhold _ htwo => ?_⟩
    · rw [htick', afterWord_cfg]
      exact Nat.zero_lt_of_lt hlt
    · rw [htick', afterWord_cfg, hticks, Nat.add_assoc, hboundary, Nat.succ_mul, Nat.add_zero]
    · simp [hwarm']
    · have hcause : s.valid = true ∨ s.hold = false ∧ s.warm = true := by simpa [hflag] using hraised
      rcases hcause with hset | ⟨-, hset⟩
      · exact (hclosed hset).trans (Nat.le_succ closed)
      · exact Nat.succ_le_succ (hwarm.mp hset)
    · have hset : s.warm = true := hwarm.mpr (Nat.le_of_succ_le_succ htwo)
      simp [hflag, hhold, hset]

/-- The same of a run without reset; with hold off throughout, VALID is set from the second boundary on. -/
theorem foldl_afterWord_afterWindows (ws : List StimWord) (hvalid : s.cfg.valid = true) (hstart : s.AfterWindows 0 0)
    (hws : ∀ w ∈ ws, Stim.rst w = false) :
    ∃ closed, (ws.foldl afterWord s).AfterWindows closed (tickCount ws) ∧
      (s.hold = false → (∀ w ∈ ws, commands w .toggleHold = false) →
        (ws.foldl afterWord s).hold = false ∧ (2 ≤ closed → (ws.foldl afterWord s).valid = true)) := by
  induction ws using List.reverseRecOn with
  | nil => exact ⟨0, hstart, fun hhold _ => ⟨hhold, by omega⟩⟩
  | append_singleton ws w ih =>
    obtain ⟨hbefore, hlast⟩ := List.forall_mem_append.mp hws
    have hrst : Stim.rst w = false := hlast w (List.mem_singleton_self w)
    obtain ⟨closed, hm, hunheld⟩ := ih hbefore
    obtain ⟨closed', hn, hraise⟩ := afterWord_afterWindows (by rwa [foldl_afterWord_cfg]) hrst hm
    rw [List.foldl_concat, tickCount_concat hrst]
    refine ⟨closed', hn, fun hhold hkeep => ?_⟩
    obtain ⟨hkeepBefore, hkeepLast⟩ := List.forall_mem_append.mp hkeep
    obtain ⟨hhold', hset⟩ := hunheld hhold hkeepBefore
    rw [afterWord_hold hrst (hkeepLast w (List.mem_singleton_self w))]
    exact ⟨hhold', hraise hhold' hset⟩

/-- Settles O40: fewer than two windows of ticks close at most one window, and two or more close two. -/
theorem nothingIsSurfacedBeforeTheSecondBoundary : Obligations.NothingIsSurfacedBeforeTheSecondBoundary := by
  intro ws s hvalid htick hwarm hcold hws
  obtain ⟨-, -, -, hpos, -⟩ := Config.valid_iff.mp hvalid
  have hstart : s.AfterWindows 0 0 := ⟨by omega, by simp [htick], by simp [hwarm], by simp [hcold]⟩
  obtain ⟨closed, ⟨hlt, hticks, -, hclosed⟩, hunheld⟩ := foldl_afterWord_afterWindows ws hvalid hstart hws
  rw [foldl_afterWord_cfg] at hlt hticks
  refine ⟨_, runWords_eq_foldl ws hvalid, fun hfew => ?_, fun hhold hkeep hmany => ?_⟩
  · refine surfaced_out_eq_none.mpr (Bool.eq_false_iff.mpr fun hset => ?_)
    have := Nat.mul_le_mul_right s.cfg.windowTicks (hclosed hset)
    omega
  · obtain ⟨-, hset⟩ := hunheld hhold hkeep
    refine surfaced_out_eq_some.mpr ⟨hset ?_, rfl⟩
    by_contra hone
    have := Nat.mul_le_mul_right s.cfg.windowTicks (show closed ≤ 1 by omega)
    omega

end Sys2Proof.Machine
end

section
/-! PROOFS. The exceptions family: what has a next state, and the one refusal (60_exceptions.md R150). -/

namespace Sys2Proof.Machine

variable {s : State}

/-- Outside a legal configuration an operation is refused by name. -/
theorem exec_of_invalid (i : Instr) (hillegal : s.cfg.valid = false) : exec i s = .refused .parametersBreakR4 := by
  rw [exec_eq_perform, perform_of_invalid hillegal]

/-- Outside a legal configuration a step is refused at its first operation, and every word has one (30_encoding.md R61). -/
theorem step_of_invalid (hillegal : s.cfg.valid = false) : step s = .refused .parametersBreakR4 := by
  obtain ⟨i, is, hops⟩ := List.exists_cons_of_ne_nil (decodeCycle_ne_nil s.nextWord)
  rw [step, cycleStep, runWord, hops]
  exact execAll_of_invalid (s := s.beginCycle) i is hillegal

/-- Settles O5: legality of the parameters alone decides; each operation, step and run has its own lemma either way. -/
theorem onlyIllegalParametersAreRefused : Obligations.OnlyIllegalParametersAreRefused := by
  intro s
  constructor
  · intro hvalid
    exact ⟨⟨_, step_next_iff.mpr ⟨hvalid, rfl⟩⟩, fun i => ⟨_, exec_of_valid i hvalid⟩,
      fun ws => ⟨_, runWords_eq_foldl ws hvalid⟩⟩
  · intro hillegal
    exact ⟨step_of_invalid hillegal, fun i => exec_of_invalid i hillegal⟩

end Sys2Proof.Machine
end

section
/-! PROOFS. The reset and hazards family: RESET itself, the words past the listed ones, and what coincides in a boundary cycle (70_reset_and_hazards.md R170, R175, R186). -/

namespace Sys2Proof.Machine

variable {s : State} {i : Instr} {w : StimWord} {op : OpName}

/-! ### RESET, and the word past the listed ones -/

/-- Settles O2: `doReset` is this update. -/
theorem resetClearsEveryRegister : Obligations.ResetClearsEveryRegister := by
  intro s hvalid
  exact exec_of_valid .reset hvalid

/-- Settles O44: the free word `nextWord`, listed as the only one, is taken by the same cycle and leaves the same empty list. -/
theorem unlistedStimulusIsSomeWord : Obligations.UnlistedStimulusIsSomeWord := by
  intro s hinput
  have hbegin : (s.withInput [s.nextWord]).beginCycle = s.beginCycle := by
    simp [State.beginCycle, State.withInput, hinput]
  refine ⟨s.nextWord, ?_⟩
  rw [step_of_input (s := s.withInput [s.nextWord]) rfl, hbegin]
  rfl

/-! ### The command of a cycle, on the state its tick leaves -/

theorem doOp_hold_of_opName (hi : i.opName = .toggleHold) (s : State) : (doOp i s).hold = !s.hold := by
  cases i with
  | toggleHold lower => rw [doOp_toggleHold]
  | reset | idle | evt | tick | cycleCal _ | cycleFilt _ | cyclePsc _ | echoLf | echoCr | cmdNop _ | count | ovf
  | setcnt _ | finalize => contradiction

theorem doOp_prescaler_of_opName (hi : i.opName = .cyclePsc) (s : State) :
    (doOp i s).pscIdx = (s.pscIdx + 1) % s.cfg.pscExp.length ∧ (doOp i s).pres = 0 := by
  cases i with
  | cyclePsc lower =>
    rw [doOp_cyclePsc]
    exact ⟨rfl, rfl⟩
  | reset | idle | evt | tick | cycleCal _ | toggleHold _ | cycleFilt _ | echoLf | echoCr | cmdNop _ | count | ovf
  | setcnt _ | finalize => contradiction

/-- A word that commands a row performs an operation of that row after its tick. -/
theorem exists_doCommandOf_eq (hop : commands w op = true) :
    ∃ i, i.opName = op ∧ ∀ s, doCommandOf w s = doOp i s := by
  obtain ⟨⟨-, hcv⟩, hname⟩ : (Stim.rst w = false ∧ Stim.cv w = true) ∧ (decodeCommand (Stim.cb w)).opName = op := by
    simpa [commands] using hop
  exact ⟨_, hname, fun s => if_pos hcv⟩

theorem doCommandOf_hold (hrst : Stim.rst w = false) (s : State) :
    (doCommandOf w s).hold = if commands w .toggleHold then !s.hold else s.hold := by
  cases hop : commands w .toggleHold with
  | true =>
    obtain ⟨i, hi, hcommand⟩ := exists_doCommandOf_eq hop
    rw [hcommand, doOp_hold_of_opName hi]
    rfl
  | false =>
    obtain ⟨-, hkeep, -⟩ := doCommandOf_frame hrst s
    exact hkeep hop

theorem doCommandOf_pscIdx (hrst : Stim.rst w = false) (s : State) :
    (doCommandOf w s).pscIdx =
      if commands w .cyclePsc then (s.pscIdx + 1) % s.cfg.pscExp.length else s.pscIdx := by
  cases hop : commands w .cyclePsc with
  | true =>
    obtain ⟨i, hi, hcommand⟩ := exists_doCommandOf_eq hop
    rw [hcommand, (doOp_prescaler_of_opName hi s).1]
    rfl
  | false =>
    obtain ⟨-, -, hkeep⟩ := doCommandOf_frame hrst s
    exact (hkeep hop).1

theorem doCommandOf_pres (hop : commands w .cyclePsc = true) (s : State) : (doCommandOf w s).pres = 0 := by
  obtain ⟨i, hi, hcommand⟩ := exists_doCommandOf_eq hop
  rw [hcommand, (doOp_prescaler_of_opName hi s).2]

/-! ### One cycle -/

@[simp] theorem doTick_pscIdx (s : State) : (doTick s).pscIdx = s.pscIdx := by
  rcases doTick_cases s with hinside | hboundary
  · rw [hinside, State.setTick_pscIdx]
  · rw [hboundary, doFinalize_eq, State.setTick_pscIdx]

/-- Neither the event nor the tick of a cycle writes what its command finds in HOLD and PSC_IDX (10_state.md R16, R18). -/
theorem tickPhase_control (w : StimWord) (s : State) :
    (tickPhase w s).cfg = s.cfg ∧ (tickPhase w s).hold = s.hold ∧ (tickPhase w s).pscIdx = s.pscIdx := by
  obtain ⟨pres, cnt, roc, hevent⟩ := eventPhase_frame w s
  rw [tickPhase, hevent]
  split
  · exact ⟨doOp_cfg _ .tick, doTick_hold _, doTick_pscIdx _⟩
  · exact ⟨rfl, rfl, rfl⟩

/-- A cycle without reset changes HOLD and the prescaler setting by its command alone, from their values before the cycle. -/
theorem afterWord_control (hrst : Stim.rst w = false) (s : State) :
    (afterWord s w).hold = (if commands w .toggleHold then !s.hold else s.hold) ∧
    (afterWord s w).pscIdx =
      (if commands w .cyclePsc then (s.pscIdx + 1) % s.cfg.pscExp.length else s.pscIdx) ∧
    (commands w .cyclePsc = true → (afterWord s w).pres = 0) := by
  obtain ⟨hcfg, hhold, hpsc⟩ := tickPhase_control w s
  rw [afterWord_eq hrst, doCommandOf_hold hrst, doCommandOf_pscIdx hrst, hcfg, hhold, hpsc]
  exact ⟨rfl, rfl, fun hop => doCommandOf_pres hop _⟩

/-- A cycle with reset is RESET alone, which zeroes the twelve registers (30_encoding.md R62). -/
theorem afterWord_registersZero (hrst : Stim.rst w = true) (s : State) : (afterWord s w).RegistersZero := by
  rw [afterWord, doAll_decodeCycle_rst w hrst]
  exact ⟨rfl, rfl, rfl, rfl, rfl, rfl, rfl, rfl, rfl, rfl, rfl, rfl⟩

/-- A step whose word is listed in the state itself. -/
theorem step_eq_afterWord {ws : List StimWord} (hvalid : s.cfg.valid = true) (hinput : s.input = w :: ws) :
    step s = .next ((afterWord s w).withInput ws) := by
  rw [← step_withInput_cons s w ws hvalid, ← hinput]
  rfl

/-- Settles O22: (a) the count of the closing window by `afterWord_of_boundary` and `scaledCount_afterEvent`, (b) and (c) the commands' effects by `afterWord_control`, (d) the reset by `afterWord_registersZero`. -/
theorem boundaryCycleCoincidence : Obligations.BoundaryCycleCoincidence := by
  intro s e w ws hs he hinput htick hboundary
  obtain rfl := exponent_of_getElem? he
  obtain ⟨hvalid, ⟨hcnt, -⟩, -⟩ := hs
  refine ⟨_, step_eq_afterWord hvalid hinput, fun hrst => afterWord_registersZero hrst s, fun hrst => ?_⟩
  obtain ⟨hcapture, hheld, hcnt', hroc', htick', -⟩ := afterWord_of_boundary hvalid hrst htick hboundary
  obtain ⟨hhold', hpsc', hpres'⟩ := afterWord_control hrst s
  exact ⟨fun hhold => (hheld hhold).left, fun hhold => (hcapture hhold).trans (scaledCount_afterEvent w hvalid hcnt),
    hcnt', hroc', htick', hhold', hpsc', hpres'⟩

end Sys2Proof.Machine
end

section
/-! PROOFS. The opcode table (30_encoding.md section 4): its rows against the decoder, and how many words stand for each operation. -/

namespace Sys2Proof

open Machine (commands)

variable {w : StimWord}

/-! ### Which operations a word stands for -/

/-- RESET alone with `rst`; without it one operation for each strobe that is set, and IDLE if none is (30_encoding.md R61, R62). -/
theorem any_decodeCycle (p : Instr → Bool) (w : StimWord) :
    (decodeCycle w).any p =
      ((Stim.rst w && p .reset) ||
        (!Stim.rst w &&
          ((Stim.evt w && p .evt) || (Stim.tick w && p .tick) || (Stim.cv w && p (decodeCommand (Stim.cb w))) ||
            (!(Stim.evt w || Stim.tick w || Stim.cv w) && p .idle)))) := by
  cases hrst : Stim.rst w with
  | true => simp [decodeCycle_of_rst hrst]
  | false =>
    rw [decodeCycle_of_rst_false hrst, commandByte]
    cases Stim.evt w <;> cases Stim.tick w <;> cases Stim.cv w <;> simp [cycleOps, Bool.or_assoc]

/-- The word stands for an operation of the given row, among others perhaps: what `contains_opNames` says of the decoder. -/
def performs (w : StimWord) : OpName → Bool
  | .reset => Stim.rst w
  | .idle => !Stim.rst w && !(Stim.evt w || Stim.tick w || Stim.cv w)
  | .evt => !Stim.rst w && Stim.evt w
  | .tick => !Stim.rst w && Stim.tick w
  | op => commands w op

/-- No command operation is of a row of format `strobe`. -/
theorem opName_of_isCommand {i : Instr} (hi : i.isCommand = true) :
    i.opName ≠ .reset ∧ i.opName ≠ .idle ∧ i.opName ≠ .evt ∧ i.opName ≠ .tick := by
  cases i with
  | cycleCal _ | toggleHold _ | cycleFilt _ | cyclePsc _ | echoLf | echoCr | cmdNop _ => simp [Instr.opName]
  | reset | idle | evt | tick | count | ovf | setcnt _ | finalize => contradiction

theorem contains_opNames (w : StimWord) (op : OpName) :
    ((decodeCycle w).map Instr.opName).contains op = performs w op := by
  have hcommand := opName_of_isCommand (decodeCommand_isCommand (Stim.cb w))
  have hstrobes : Instr.opName .reset = .reset ∧ Instr.opName .idle = .idle ∧ Instr.opName .evt = .evt ∧
      Instr.opName .tick = .tick := ⟨rfl, rfl, rfl, rfl⟩
  rw [List.contains_eq_any_beq, List.any_map, any_decodeCycle]
  cases op with
  | reset | idle | evt | tick => simp [performs, hcommand, hstrobes, beq_eq_decide, eq_comm]
  | cycleCal | toggleHold | cycleFilt | cyclePsc | echoLf | echoCr | cmdNop | count | ovf | setcnt | finalize =>
    simp [performs, commands, hstrobes, beq_eq_decide, Bool.and_assoc, eq_comm]

theorem mem_opNames {op : OpName} : op ∈ (decodeCycle w).map Instr.opName ↔ performs w op = true := by
  rw [← contains_opNames, List.contains_iff_mem]

/-! ### Masks -/

theorem fields_and (v w : StimWord) :
    Stim.rst (v &&& w) = (Stim.rst v && Stim.rst w) ∧ Stim.evt (v &&& w) = (Stim.evt v && Stim.evt w) ∧
    Stim.tick (v &&& w) = (Stim.tick v && Stim.tick w) ∧ Stim.cv (v &&& w) = (Stim.cv v && Stim.cv w) ∧
    Stim.cb (v &&& w) = Stim.cb v &&& Stim.cb w :=
  ⟨BitVec.getLsbD_and, BitVec.getLsbD_and, BitVec.getLsbD_and, BitVec.getLsbD_and, BitVec.extractLsb'_and⟩

/-- A word matches a row field by field. -/
theorem and_eq_iff_fields (w mask pattern : StimWord) :
    w &&& mask = pattern ↔
      (Stim.rst w && Stim.rst mask) = Stim.rst pattern ∧ (Stim.evt w && Stim.evt mask) = Stim.evt pattern ∧
      (Stim.tick w && Stim.tick mask) = Stim.tick pattern ∧ (Stim.cv w && Stim.cv mask) = Stim.cv pattern ∧
      Stim.cb w &&& Stim.cb mask = Stim.cb pattern := by
  obtain ⟨hrst, hevt, htick, hcv, hcb⟩ := fields_and w mask
  rw [← hrst, ← hevt, ← htick, ← hcv, ← hcb]
  constructor
  · rintro rfl
    exact ⟨rfl, rfl, rfl, rfl, rfl⟩
  · rintro ⟨hrst', hevt', htick', hcv', hcb'⟩
    exact word_eq_of_fields_eq hrst' hevt' htick' hcv' hcb'

theorem matches_strobeRow {r : OpcodeRow} (hr : r ∈ strobeRows) :
    w &&& r.mask = r.pattern ↔ performs w r.op = true := by
  rw [and_eq_iff_fields]
  simp only [strobeRows, List.mem_cons, List.not_mem_nil, or_false] at hr
  rcases hr with rfl | rfl | rfl | rfl <;>
    simp [performs, Stim.rst, Stim.evt, Stim.tick, Stim.cv, Stim.cb, and_assoc]

/-- A row of format `command` asks for `rst` = 0 and `cv` = 1, leaves `evt` and `tick` open, and takes the bytes of its operation (30_encoding.md R64). -/
theorem fields_of_mem_commandRows {r : OpcodeRow} (hr : r ∈ commandRows) :
    (Stim.rst r.mask = true ∧ Stim.rst r.pattern = false) ∧ (Stim.evt r.mask = false ∧ Stim.evt r.pattern = false) ∧
    (Stim.tick r.mask = false ∧ Stim.tick r.pattern = false) ∧ (Stim.cv r.mask = true ∧ Stim.cv r.pattern = true) ∧
    ∀ b : Byte, b &&& Stim.cb r.mask = Stim.cb r.pattern ↔ (decodeCommand b).opName = r.op := by
  revert r
  decide

theorem performs_of_mem_commandRows {r : OpcodeRow} (hr : r ∈ commandRows) : performs w r.op = commands w r.op := by
  revert r
  simp [commandRows, performs]

theorem matches_commandRow {r : OpcodeRow} (hr : r ∈ commandRows) :
    w &&& r.mask = r.pattern ↔ performs w r.op = true := by
  obtain ⟨hrst, hevt, htick, hcv, hbyte⟩ := fields_of_mem_commandRows hr
  rw [performs_of_mem_commandRows hr, and_eq_iff_fields, hbyte]
  simp [hrst, hevt, htick, hcv, commands, and_assoc]

/-- CMD_NOP is the command operation of no other row (30_encoding.md R64). -/
theorem opName_eq_cmdNop_iff {i : Instr} (hi : i.isCommand = true) :
    i.opName = .cmdNop ↔ ∀ r ∈ commandRows, i.opName ≠ r.op := by
  cases i with
  | cycleCal _ | toggleHold _ | cycleFilt _ | cyclePsc _ | echoLf | echoCr | cmdNop _ =>
    simp [Instr.opName, commandRows]
  | reset | idle | evt | tick | count | ovf | setcnt _ | finalize => contradiction

theorem performs_cmdNop_iff :
    performs w .cmdNop = true ↔ w &&& 0x900#12 = 0x100#12 ∧ ∀ r ∈ commandRows, w &&& r.mask ≠ r.pattern := by
  have hcommandWord : w &&& 0x900#12 = 0x100#12 ↔ Stim.rst w = false ∧ Stim.cv w = true := by
    rw [and_eq_iff_fields]
    simp [Stim.rst, Stim.evt, Stim.tick, Stim.cv, Stim.cb]
  have hname : performs w .cmdNop = true ↔
      (Stim.rst w = false ∧ Stim.cv w = true) ∧ (decodeCommand (Stim.cb w)).opName = .cmdNop := by
    simp [performs, commands]
  rw [hname, hcommandWord, opName_eq_cmdNop_iff (decodeCommand_isCommand _)]
  refine and_congr_right fun ⟨hrst, hcv⟩ => forall₂_congr fun r hr => ?_
  rw [Ne, Ne, matches_commandRow hr, performs_of_mem_commandRows hr]
  simp [commands, hrst, hcv]

/-- Settles O48: the strobe rows, the command rows and CMD_NOP's default row, each through `performs`. -/
theorem decoderAgreesWithTheOpcodeTable : Obligations.DecoderAgreesWithTheOpcodeTable := by
  intro w
  refine ⟨fun r hr => ?_, mem_opNames.trans performs_cmdNop_iff⟩
  rw [mem_opNames]
  rcases List.mem_append.mp hr with hstrobe | hcommand
  · exact matches_strobeRow hstrobe
  · exact matches_commandRow hcommand

/-! ### Counting words -/

/-- Numbers below n * m counted by a condition on the quotient by n and one on the remainder. -/
theorem countP_range_mul {p q r : Nat → Bool} {n : Nat} (h : ∀ i j, j < n → p (n * i + j) = (q i && r j)) (m : Nat) :
    (List.range (n * m)).countP p = (List.range m).countP q * (List.range n).countP r := by
  induction m with
  | zero => simp
  | succ m ih =>
    have hblock : ((List.range n).map (n * m + ·)).countP p = (List.range n).countP fun j => q m && r j := by
      rw [List.countP_map]
      refine List.countP_congr fun j hj => ?_
      rw [Function.comp_apply, h m j (List.mem_range.mp hj)]
    rw [Nat.mul_succ, List.range_add, List.countP_append, ih, hblock, List.range_succ, List.countP_append]
    cases hq : q m <;> simp [hq, Nat.add_mul]

/-- The strobes of a word are the four bits above its byte (30_encoding.md R60). -/
theorem fields_ofNat (i : Nat) {j : Nat} (hj : j < 256) :
    Stim.rst (BitVec.ofNat 12 (256 * i + j)) = i.testBit 3 ∧ Stim.evt (BitVec.ofNat 12 (256 * i + j)) = i.testBit 2 ∧
    Stim.tick (BitVec.ofNat 12 (256 * i + j)) = i.testBit 1 ∧ Stim.cv (BitVec.ofNat 12 (256 * i + j)) = i.testBit 0 ∧
    Stim.cb (BitVec.ofNat 12 (256 * i + j)) = BitVec.ofNat 8 j := by
  have hbits (k : Nat) : (256 * i + j).testBit k = if k < 8 then j.testBit k else i.testBit (k - 8) :=
    Nat.testBit_two_pow_mul_add (i := 8) i hj k
  have hstrobe (k : Nat) (hk : k < 4) : (BitVec.ofNat 12 (256 * i + j)).getLsbD (k + 8) = i.testBit k := by
    have hwidth : k + 8 < 12 := by omega
    rw [BitVec.getLsbD_ofNat, hbits]
    simp [hwidth]
  refine ⟨hstrobe 3 (by decide), hstrobe 2 (by decide), hstrobe 1 (by decide), hstrobe 0 (by decide), ?_⟩
  refine BitVec.eq_of_getLsbD_eq fun k hk => ?_
  have hwidth : k < 12 := by omega
  rw [Stim.cb, BitVec.getLsbD_extractLsb', Nat.zero_add, BitVec.getLsbD_ofNat, BitVec.getLsbD_ofNat, hbits]
  simp [hk, hwidth]

/-- How many of the 4096 words meet a condition. -/
def wordCount (p : StimWord → Bool) : Nat := (List.range 4096).countP fun n => p (BitVec.ofNat 12 n)

/-- How many of the 16 values of `rst`, `evt`, `tick` and `cv` meet a condition. -/
def strobeCount (q : Bool → Bool → Bool → Bool → Bool) : Nat :=
  (List.range 16).countP fun i => q (i.testBit 3) (i.testBit 2) (i.testBit 1) (i.testBit 0)

/-- How many of the 256 bytes meet a condition. -/
def byteCount (r : Byte → Bool) : Nat := (List.range 256).countP fun j => r (BitVec.ofNat 8 j)

/-- The strobes and the byte of a word are independent, so the counts of a condition on each multiply. -/
theorem wordCount_and (q : Bool → Bool → Bool → Bool → Bool) (r : Byte → Bool) :
    wordCount (fun w => q (Stim.rst w) (Stim.evt w) (Stim.tick w) (Stim.cv w) && r (Stim.cb w)) =
      strobeCount q * byteCount r := by
  refine countP_range_mul (n := 256) (fun i j hj => ?_) 16
  obtain ⟨hrst, hevt, htick, hcv, hcb⟩ := fields_ofNat i hj
  simp only [hrst, hevt, htick, hcv, hcb]

theorem wordCount_strobes (q : Bool → Bool → Bool → Bool → Bool) :
    wordCount (fun w => q (Stim.rst w) (Stim.evt w) (Stim.tick w) (Stim.cv w)) = strobeCount q * 256 := by
  simpa [byteCount] using wordCount_and q fun _ => true

/-- The byte is one of the operation's (30_encoding.md R64). -/
def selects (op : OpName) (b : Byte) : Bool := (decodeCommand b).opName == op

/-- The bytes of each row of the command map (30_encoding.md R64), and the 246 left to CMD_NOP. -/
theorem byteCount_selects :
    byteCount (selects .cycleCal) = 2 ∧ byteCount (selects .toggleHold) = 2 ∧ byteCount (selects .cycleFilt) = 2 ∧
    byteCount (selects .cyclePsc) = 2 ∧ byteCount (selects .echoLf) = 1 ∧ byteCount (selects .echoCr) = 1 ∧
    byteCount (selects .cmdNop) = 246 := by
  decide +kernel

/-- Each byte stands in four words with `cv` = 1 and `rst` = 0: `evt` and `tick` are free. -/
theorem wordCount_commands {op : OpName} {k : Nat} (hbytes : byteCount (selects op) = k) :
    wordCount (commands · op) = 4 * k := by
  have hstrobes : strobeCount (fun rst _ _ cv => !rst && cv) = 4 := by decide
  rw [← hbytes, ← hstrobes, ← wordCount_and]
  rfl

/-! ### Counting operations -/

/-- For an operation that is performed alone or not at all, being the whole cycle is being in it. -/
theorem opNames_beq_of_alone {op : OpName}
    (halone : performs w op = true → (decodeCycle w).map Instr.opName = [op]) :
    ((decodeCycle w).map Instr.opName == [op]) = performs w op := by
  rw [Bool.eq_iff_iff, beq_iff_eq]
  exact ⟨fun heq => mem_opNames.mp (heq ▸ List.mem_singleton_self op), halone⟩

theorem opNames_beq_reset (w : StimWord) : ((decodeCycle w).map Instr.opName == [.reset]) = performs w .reset :=
  opNames_beq_of_alone fun hrst => congrArg (List.map Instr.opName) (decodeCycle_of_rst hrst)

theorem opNames_beq_idle (w : StimWord) : ((decodeCycle w).map Instr.opName == [.idle]) = performs w .idle := by
  refine opNames_beq_of_alone fun hidle => ?_
  have hrow : w &&& 0xF00#12 = 0x000#12 := (matches_strobeRow (r := ⟨.idle, 0x000#12, 0xF00#12⟩) (by decide)).mpr hidle
  exact congrArg (List.map Instr.opName) (Machine.decodeCycle_of_no_strobe hrow)

theorem any_isCommand (w : StimWord) : (decodeCycle w).any Instr.isCommand = (!Stim.rst w && Stim.cv w) := by
  rw [any_decodeCycle, decodeCommand_isCommand]
  simp [Instr.isCommand]

theorem any_isMicro (w : StimWord) : (decodeCycle w).any Instr.isMicro = false := by
  rw [any_decodeCycle, isMicro_of_isCommand (decodeCommand_isCommand _)]
  simp [Instr.isMicro]

/-- Settles O49: the strobe operations and the command words by `wordCount_strobes`, each command operation by its bytes (`wordCount_commands`). -/
theorem wordCountsOfTheOperations : Obligations.WordCountsOfTheOperations := by
  obtain ⟨hcal, hhold, hfilt, hpsc, hlf, hcr, hnop⟩ := byteCount_selects
  simp only [Obligations.WordCountsOfTheOperations, List.countP_map, Function.comp_def, contains_opNames,
    opNames_beq_reset, opNames_beq_idle, any_isCommand, any_isMicro]
  refine ⟨?reset, ?idle, ?evt, ?tick, ?command, wordCount_commands hcal, wordCount_commands hhold,
    wordCount_commands hfilt, wordCount_commands hpsc, wordCount_commands hlf, wordCount_commands hcr,
    wordCount_commands hnop, ?micro⟩
  case reset => exact (wordCount_strobes fun rst _ _ _ => rst).trans (by decide)
  case idle => exact (wordCount_strobes fun rst evt tick cv => !rst && !(evt || tick || cv)).trans (by decide)
  case evt => exact (wordCount_strobes fun rst evt _ _ => !rst && evt).trans (by decide)
  case tick => exact (wordCount_strobes fun rst _ tick _ => !rst && tick).trans (by decide)
  case command => exact (wordCount_strobes fun rst _ _ cv => !rst && cv).trans (by decide)
  case micro => simp

end Sys2Proof
end
